-- ==== Sys2Proof/Word.lean ====
section
/-! DEFINITION. The machine's word types (00 R7, R8): an 8-bit byte and a 16-bit word. Everything that could
be read wrong about their bits (halves, sign extension, fields) stands in Machine/Bits.lean. -/

namespace Sys2Proof

/-- A byte (00 R8): registers A to L, every bus access (20 R101). -/
abbrev Byte := BitVec 8

/-- A 16-bit word (00 R8): SP, PC, register pairs and addresses (00 R7). -/
abbrev Word := BitVec 16

end Sys2Proof
end

