-- ==== Sys2Proof/Machine/Bits.lean ====
section
/-! DEFINITION. Bit-field, byte-order and sign-extension helpers (00 R8, 20 R102). -/

namespace Sys2Proof.Machine

/-- `v[15:8]` (00 R8). -/
def hiByte (v : Word) : Byte := v.extractLsb' 8 8

/-- `v[7:0]` (00 R8). -/
def loByte (v : Word) : Byte := v.extractLsb' 0 8

/-- `{hi, lo}` (00 R8, 10 R21): the word with hi in its high byte. -/
def mkWord (hi lo : Byte) : Word := hi ++ lo

/-- `sext_16(e)` (00 R8): the two's-complement sign extension of a byte. -/
def sext16 (e : Byte) : Word := e.signExtend 16

/-- `v[i]` of a byte (00 R8), as a truth value. -/
def bitOf (v : Byte) (i : Nat) : Bool := v.getLsbD i

/-- A bit as a one-bit vector, for building register reads by concatenation (10 R39). -/
def bit1 (b : Bool) : BitVec 1 := BitVec.ofBool b

/-- The low half-byte as a number (41: `A & 0x0F`). -/
def lowNibble (v : Byte) : Nat := v.toNat % 16

end Sys2Proof.Machine
end

