-- ==== Sys2Proof/Config.lean ====
section
/-! DEFINITION. The machine's parameters (00 R7, 93 section 3): the fixed numbers the spec gives, and, without a
body, the values the spec leaves OPEN or calls a draw. An opaque constant has no value Lean can evaluate or prove
anything of, so a theorem holds for every value. -/

namespace Sys2Proof.Config

/-- A draw (00 R12, D11): the n-th free byte the run takes. Nothing constrains it. Log 2. -/
opaque draw : Nat → BitVec 8

/-- `unhaltCost`, OPEN (60 R516, D3): the cycles a wake without dispatch charges to the frame budget. Log 9. -/
opaque unhaltCost : Nat

/-- `tacWriteResetsCounter`, OPEN (20 R131, D19): whether a TAC write that changes the period clears the timer
counter. Log 9. -/
opaque tacWriteResetsCounter : Bool

/-- `dmgShades`, OPEN (61 R620, D56): the RGB8 triple of each DMG shade. Log 10. -/
opaque dmgShades : BitVec 2 → BitVec 8 × BitVec 8 × BitVec 8

/-- `colorLUT`, OPEN (61 R621, D56): a 5-bit channel value's 8-bit value. Log 10. -/
opaque colorLUT : BitVec 5 → BitVec 8

/-- `sampleRate`, OPEN (62 R730, D45): samples per second per output channel, a positive number. Log 12. -/
opaque sampleRate : ℕ+

/-- `mix(values, vol)`, OPEN (62 R730, D45): the output sample of the routed channel values at a master volume.
Log 12. -/
opaque mix : List Nat → BitVec 3 → Int

/-- `lookahead`, OPEN (62 R730, D45): seconds of samples per pull. Log 12. -/
opaque lookahead : Rat

/-- The pull rate, OPEN (62 R730, D45): pulls per second. Log 12. -/
opaque pullRate : Rat

/-- `HALT_STEP_COST` (00 R7, 60 R502, D2): the cost of a halted step. -/
def haltStepCost : Nat := 4

/-- `INT_COST` (00 R7, 60 R514): the cost of an interrupt dispatch, charged to the frame budget only. -/
def intCost : Nat := 20

/-- `DIV_PERIOD` (00 R7, 60 R520, 90 C2). -/
def divPeriod : Nat := 255

/-- `LINE_CYCLES` (00 R7, 61 R601): cycles of a scanline at single speed. -/
def lineCycles : Nat := 456

/-- The end of mode 2 in a line at single speed (61 R601). -/
def oamScanCycles : Nat := 80

/-- The end of mode 3 in a line at single speed (61 R601). -/
def drawCycles : Nat := 252

/-- `CYCLES_PER_FRAME` at single speed: floor(4194304 / 60) (00 R7, D48). -/
def cyclesPerFrame : Nat := 4194304 / 60

/-- `SCREEN_W` (00 R7). -/
def screenW : Nat := 160

/-- `SCREEN_H` (00 R7): the visible lines, 0 to 143 (61 R601). -/
def screenH : Nat := 144

end Sys2Proof.Config
end

