-- ==== Sys2Proof/Machine/Header.lean ====
section
/-! DEFINITION. The cartridge header bytes CORE reads (20 R150): 0x0147 selects the bank controller and the battery
flag (20 R151, R152), 0x0143 the CGB support (70 R802). -/

namespace Sys2Proof.Machine

/-- The bank controllers (10 R63, 20 R151): a closed sum of five. -/
inductive Mbc where
  | romOnly | mbc1 | mbc2 | mbc3 | mbc5
  deriving DecidableEq, Repr

/-- `supportMode` (10 R32, 70 R802). -/
inductive SupportMode where
  | dmgOnly | dmgCgbCapable | cgbOnly
  deriving DecidableEq, Repr

/-- 20 R151: the controller of header byte 0x147, tested in the rule's order (90 C5: the list first). -/
def mbcOfHeader (t : Byte) : Mbc :=
  if t ∈ [0x00, 0x08, 0x09, 0x0B, 0x0C, 0x0D] then .romOnly
  else if t ≤ 0x03 then .mbc1
  else if t ≤ 0x06 then .mbc2
  else if t ≤ 0x13 then .mbc3
  else if t < 0x17 then .mbc1
  else if t < 0x1F then .mbc5
  else .mbc1

/-- 20 R152: the battery-backed types. -/
def batteryOfHeader (t : Byte) : Bool :=
  decide (t ∈ [0x03, 0x06, 0x09, 0x0D, 0x0F, 0x10, 0x13, 0x17, 0x1B, 0x1E, 0xFF])

/-- 70 R802: `SupportMode(h)` of header byte 0x143. -/
def supportOfHeader (h : Byte) : SupportMode :=
  if h = 0x80 then .dmgCgbCapable else if h = 0xC0 then .cgbOnly else .dmgOnly

/-- 70 R802, D33: `cgbMode` is 1 exactly when the host asked for CGB and the cartridge supports it. -/
def cgbModeOf (requestCgb : Bool) (m : SupportMode) : Bool :=
  requestCgb && decide (m ≠ .dmgOnly)

end Sys2Proof.Machine
end

