-- ==== Sys2Proof/Machine/Memory.lean ====
section
/-! DEFINITION. A byte array of the machine (10 R38) as plain data: a list of (index, byte) pairs in one canonical
form, indexes strictly rising and no entry equal to what an unlisted index reads as. -/

namespace Sys2Proof.Machine

/-- A byte array (10 R38) as a sparse list of (index, byte) pairs. -/
abbrev Memory := List Host.Cell

/-- What an unlisted index reads as. The spec leaves the start contents OPEN (10 R38, D35); the model fills with
0x00 what construct's `initialRam` does not list. DESIGN CHOICE, unsafe: log 3. -/
def Memory.unlisted : Byte := 0x00

/-- The byte at index `i`. -/
def Memory.get : Memory → Nat → Byte
  | [], _ => Memory.unlisted
  | (k, v) :: t, i => if i = k then v else Memory.get t i

/-- A cell in front of a list, left out when it holds what an unlisted index reads as. -/
def Memory.cons (k : Nat) (v : Byte) (t : Memory) : Memory :=
  if v = Memory.unlisted then t else (k, v) :: t

/-- Store `v` at index `i`, keeping the canonical form. -/
def Memory.set : Memory → Nat → Byte → Memory
  | [], i, v => Memory.cons i v []
  | (k, w) :: t, i, v =>
    if i < k then Memory.cons i v ((k, w) :: t)
    else if i = k then Memory.cons i v t
    else (k, w) :: Memory.set t i v

/-- The canonical form above a bound: every index at least `lo`, strictly rising, no cell holding the unlisted byte. -/
def Memory.wfFrom : Nat → Memory → Bool
  | _, [] => true
  | lo, (k, v) :: t => decide (lo ≤ k) && decide (v ≠ Memory.unlisted) && Memory.wfFrom (k + 1) t

/-- The canonical form. -/
def Memory.wf (m : Memory) : Bool := Memory.wfFrom 0 m

/-- Every listed index is below `n` (the array's size, 10 R38). -/
def Memory.below (n : Nat) (m : Memory) : Bool := m.all fun c => decide (c.1 < n)

/-- The cells of consecutive bytes from index `i` on, in canonical form. -/
def Memory.ofBytesFrom : Nat → List Byte → Memory
  | _, [] => []
  | i, v :: t => Memory.cons i v (Memory.ofBytesFrom (i + 1) t)

/-- The byte array whose contents are `bs` from index 0 on. -/
def Memory.ofBytes (bs : List Byte) : Memory := Memory.ofBytesFrom 0 bs

/-- The `n` bytes from index `i` on, in order. -/
def Memory.bytes (m : Memory) : Nat → Nat → List Byte
  | _, 0 => []
  | i, n + 1 => m.get i :: Memory.bytes m (i + 1) n

/-- Store a byte list from index `i` on, at most up to `size`. -/
def Memory.setBytes (size : Nat) : Memory → Nat → List Byte → Memory
  | m, _, [] => m
  | m, i, v :: t => if i < size then Memory.setBytes size (m.set i v) (i + 1) t else m

end Sys2Proof.Machine
end

