-- ==== Sys2Proof/Machine/State.lean ====
section
/-! DEFINITION. The machine's state as plain data (10 R20 to R70), the reasons a step can stop, and the state right
after construction (70 R800, R801). INVENTORY.md lists every field with its rule and its reset value. -/

namespace Sys2Proof.Machine

/-- The faults of 60 R546. `raise Fault` (00 R11) records one in the field `fault` of State (10 R68); from then on
every step stops with it (60 R545). All are safe: the machine stops where the spec says the run ends. Log 1. -/
inductive Fault where
  /-- Raised by executing one of the 11 unassigned opcodes (45 R405); records the opcode byte. Safe. -/
  | illegalOpcode (o : Byte)
  /-- Raised by STOP without an armed CGB speed switch (45 R402). Safe. -/
  | stopUnmodelled
  /-- Raised by a ROM read at or past the ROM's length, on fetch, load, DMA or HDMA (20 R153). Safe. -/
  | romOutOfRange (idx : Nat)
  /-- Raised by an MBC3 access to 0xA000 to 0xBFFF with RAM enabled and `ramBank` above 0x0F (20 R168). Safe. -/
  | rtcIndexOutOfRange (bank : Byte)
  deriving DecidableEq, Repr

/-- The reasons to refuse an instruction. No meaning of this model refuses. -/
inductive Refusal where
  /-- An instruction that has no meaning yet, rejected by name in its arm of exec. Safe. -/
  | notModelled (mnemonic : String)
  deriving DecidableEq, Repr

/-- The four flags of F (10 R22, R27). F[3:0] is hard-wired to 0, so the flags are all of F. -/
structure Flags where
  z : Bool
  n : Bool
  h : Bool
  c : Bool
  deriving DecidableEq, Repr

/-- CPU registers and control bits (10 R20 to R30). -/
structure Cpu where
  a : Byte
  f : Flags
  b : Byte
  c : Byte
  d : Byte
  e : Byte
  h : Byte
  l : Byte
  sp : Word
  pc : Word
  /-- 10 R28. -/
  ime : Bool
  /-- 10 R29: the one-shot flag EI sets. -/
  enabling : Bool
  /-- 10 R30. -/
  halted : Bool
  deriving DecidableEq, Repr

/-- The divider and the timer (10 R34, R35, R42 to R45). -/
structure Timer where
  div : Byte
  tima : Byte
  tma : Byte
  /-- TAC[2:0]. -/
  tac : BitVec 3
  divAcc : Nat
  timerCounter : Nat
  deriving DecidableEq, Repr

/-- A pixel of a frame buffer (10 R64), by what decides its RGB8 value: (0, 0, 0) before anything is drawn, a DMG
shade (61 R620) or a 15-bit CGB colour (61 R621). Log 10. -/
inductive Pixel where
  | black
  | shade (s : BitVec 2)
  | colour (v : BitVec 15)
  deriving DecidableEq, Repr

/-- A frame buffer by row: the rows drawn so far, row numbers strictly rising; a row not listed is all black. -/
abbrev Frame := List (Nat × List Pixel)

/-- A palette index register BCPS or OCPS (10 R60). -/
structure PalIndex where
  autoinc : Bool
  index : BitVec 6
  deriving DecidableEq, Repr

/-- The PPU: its registers (10 R48 to R56, R58, R60), counters (R36), memories (R38) and buffers (R64). -/
structure Ppu where
  lcdc : Byte
  /-- STAT[6:3]: bit 0 the mode 0 select, bit 1 mode 1, bit 2 mode 2, bit 3 LYC = LY (10 R49). -/
  statSel : BitVec 4
  scy : Byte
  scx : Byte
  ly : Byte
  lyc : Byte
  bgp : Byte
  obp0 : Byte
  obp1 : Byte
  wy : Byte
  wx : Byte
  /-- VBK[0]. -/
  vbk : Bool
  bcps : PalIndex
  ocps : PalIndex
  dot : Nat
  mode : BitVec 2
  prevCoin : Bool
  /-- Two banks of 0x2000 bytes; bank k starts at index k * 0x2000. -/
  vram : Memory
  oam : Memory
  bgPal : Memory
  objPal : Memory
  screen : Frame
  prepared : Frame
  bgIndex : List (BitVec 2)
  bgAttrPrio : List Bool
  deriving DecidableEq, Repr

/-- The HDMA unit (10 R37). -/
structure Hdma where
  src : Word
  dst : Word
  remaining : Nat
  active : Bool
  deriving DecidableEq, Repr

/-- The cartridge and its bank controller (10 R38, R63). -/
structure Cart where
  mbc : Mbc
  battery : Bool
  romLength : Nat
  rom : Memory
  /-- 0x20000 bytes; bank k starts at index k * 0x2000. -/
  ram : Memory
  /-- 512 entries of 4 bits, each in bits 3:0 of its byte. -/
  mbc2Ram : Memory
  romBank : Byte
  ramBank : Byte
  ramEnabled : Bool
  mbc1RamMode : Bool
  rtcLive : Memory
  rtcLatched : Memory
  rtcIsLatched : Bool
  deriving DecidableEq, Repr

/-- The kind of an APU channel (10 R65): fixed per channel. -/
inductive ChannelKind where
  | square | wave | noise
  deriving DecidableEq, Repr

/-- An APU channel's state (10 R65, 62 R703, R720). The sweep fields, `shadow` and `duty` are used by channels 1 and 2. -/
structure Channel where
  kind : ChannelKind
  on : Bool
  freqHz : Rat
  amplitude : BitVec 4
  /-- `none` is Unlimited. -/
  duration : Option Nat
  envStep : Nat
  envTarget : Nat
  envSamplesPerStep : Nat
  /-- true is up. -/
  envDir : Bool
  sweepLen : Nat
  sweepSteps : Nat
  /-- true is down. -/
  sweepDir : Bool
  sweepCount : Nat
  shadow : BitVec 11
  /-- NRn1[7:6] as it was at the last trigger (62 R702; log 20). -/
  duty : BitVec 2
  phase : Rat
  deriving DecidableEq, Repr

/-- The APU: the register bytes by the low byte of their address 0x10 to 0x26 (10 R62), wave RAM, the channels. -/
structure Apu where
  regs : Memory
  wave : Memory
  ch1 : Channel
  ch2 : Channel
  ch3 : Channel
  ch4 : Channel
  lfsr : BitVec 15
  /-- NR43[3] as it was at the last trigger of channel 4: the 7-bit LFSR (62 R702; log 20). -/
  narrow : Bool
  /-- Whether the sampler exists (62 R720, 70 R800). -/
  soundEnabled : Bool
  deriving DecidableEq, Repr

/-- The whole state of CORE (10 R20 to R68), and the model's own three fields at the end. -/
structure State where
  cpu : Cpu
  timer : Timer
  ppu : Ppu
  hdma : Hdma
  cart : Cart
  apu : Apu
  /-- Eight banks of 0x1000 bytes; bank k starts at index k * 0x1000 (10 R38). -/
  wram : Memory
  /-- 127 bytes (10 R38). -/
  hram : Memory
  /-- SVBK[2:0] (10 R61). -/
  svbk : BitVec 3
  /-- IF[4:0] (10 R46). -/
  ifr : BitVec 5
  /-- IE (10 R47). -/
  ie : Byte
  /-- P1[5:4]: bit 1 the buttons line, bit 0 the directions line (10 R40). -/
  p1 : BitVec 2
  /-- 10 R66: active low. -/
  inputMask : Byte
  /-- 10 R31. -/
  doubleSpeed : Bool
  speedArmed : Bool
  /-- 10 R32: fixed at construction. -/
  cgbMode : Bool
  supportMode : SupportMode
  /-- 10 R33. -/
  frameCarry : Nat
  /-- 10 R68: the recorded fault. -/
  fault : Option Fault
  /-- The model's own: how many draws have been taken (00 R12; log 2). -/
  draws : Nat
  /-- The model's own: the cost c of this step's instruction (60 R501; log 8). -/
  cost : Nat
  /-- The model's own: the cycles the last Step() returned (60 R501; log 8). -/
  charge : Nat
  deriving DecidableEq, Repr

/-- The noise LFSR's value at start, on which the spec's rules differ and no ruling decides: 0 (10 R65, D44, 70 R801) or
0x7FFF (62 R720). Log 21. -/
inductive LfsrReset where
  | zero
  | ones
  deriving DecidableEq, Repr

/-- The value of the 15 bits. -/
def LfsrReset.value : LfsrReset → BitVec 15
  | .zero => 0
  | .ones => 0x7FFF

/-- `BootState` (10 R70): the register and I/O values at start the source leaves open, an argument of construct. -/
structure BootState where
  a : Byte
  f : Flags
  b : Byte
  c : Byte
  d : Byte
  e : Byte
  h : Byte
  l : Byte
  sp : Word
  pc : Word
  div : Byte
  if0 : Bool
  obp0 : Byte
  obp1 : Byte
  /-- The bytes at 0xFF10 to 0xFF26, in address order (10 R62). -/
  apu : List Byte
  /-- The model's own: which of the spec's two values the LFSR starts with (log 21). -/
  lfsr : LfsrReset
  deriving DecidableEq, Repr

/-- 10 R62: `BootState.APU`, the bytes at 0xFF10 to 0xFF26; the byte at the unused 0xFF1F is 0x00 (log 7). -/
def bootApu : List Byte :=
  [0x80, 0xBF, 0xF3, 0xFF, 0xBF, 0x00, 0x3F, 0x00, 0xFF, 0xBF, 0x7F, 0xFF, 0x9F, 0xFF, 0xBF, 0x00,
   0xFF, 0x00, 0x00, 0xBF, 0x77, 0xF3, 0xF1]

/-- 10 R70: the DMG mode defaults. DIV is OPEN there; `div` is an argument (log 5). -/
def dmgBoot (div : Byte) : BootState :=
  { a := 0x01, f := { z := true, n := false, h := true, c := true }, b := 0x00, c := 0x13, d := 0x00, e := 0xD8,
    h := 0x01, l := 0x4D, sp := 0xFFFE, pc := 0x0100, div := div, if0 := true, obp0 := 0xFF, obp1 := 0xFF,
    apu := bootApu, lfsr := .ones }

/-- 10 R70: the CGB mode defaults. -/
def cgbBoot (div : Byte) : BootState :=
  { a := 0x11, f := { z := true, n := false, h := false, c := false }, b := 0x00, c := 0x00, d := 0xFF, e := 0x56,
    h := 0x00, l := 0x0D, sp := 0xFFFE, pc := 0x0100, div := div, if0 := true, obp0 := 0xFF, obp1 := 0xFF,
    apu := bootApu, lfsr := .ones }

/-- `initialRam` (10 R38, D35): the start contents of each array from index 0 on; what a list leaves out is 0x00
(log 3). An argument of construct. -/
structure InitialRam where
  cartRam : List Byte
  mbc2Ram : List Byte
  wram : List Byte
  vram : List Byte
  oam : List Byte
  hram : List Byte
  wave : List Byte
  bgPal : List Byte
  objPal : List Byte
  deriving DecidableEq, Repr

/-- Nothing listed (log 3). -/
def InitialRam.empty : InitialRam :=
  { cartRam := [], mbc2Ram := [], wram := [], vram := [], oam := [], hram := [], wave := [], bgPal := [],
    objPal := [] }

/-- A channel at reset (10 R65): off, every other field 0. -/
def Channel.atReset (k : ChannelKind) : Channel :=
  { kind := k, on := false, freqHz := 0, amplitude := 0, duration := some 0, envStep := 0, envTarget := 0,
    envSamplesPerStep := 0, envDir := false, sweepLen := 0, sweepSteps := 0, sweepDir := false, sweepCount := 0,
    shadow := 0, duty := 0, phase := 0 }

/-- 70 R801: every state item at its reset value, for a ROM given by its length and contents. The LFSR starts at 0 or
at 0x7FFF, as `boot` says: log 21. -/
def initialState (romLength : Nat) (rom : Memory) (requestCgb soundEnabled : Bool) (boot : BootState)
    (ram : InitialRam) : State :=
  let support := supportOfHeader (rom.get 0x143)
  { cpu := { a := boot.a, f := boot.f, b := boot.b, c := boot.c, d := boot.d, e := boot.e, h := boot.h,
             l := boot.l, sp := boot.sp, pc := boot.pc, ime := false, enabling := false, halted := false }
    timer := { div := boot.div, tima := 0x00, tma := 0x00, tac := 0, divAcc := 0, timerCounter := 0 }
    ppu := { lcdc := 0x91, statSel := 0, scy := 0x00, scx := 0x00, ly := 0, lyc := 0x00, bgp := 0xFC,
             obp0 := boot.obp0, obp1 := boot.obp1, wy := 0x00, wx := 0x00, vbk := false,
             bcps := { autoinc := false, index := 0 }, ocps := { autoinc := false, index := 0 },
             dot := 0, mode := 2, prevCoin := true,
             vram := Memory.ofBytes (ram.vram.take 0x4000), oam := Memory.ofBytes (ram.oam.take 160),
             bgPal := Memory.ofBytes (ram.bgPal.take 64), objPal := Memory.ofBytes (ram.objPal.take 64),
             screen := [], prepared := [], bgIndex := List.replicate 160 0, bgAttrPrio := List.replicate 160 false }
    hdma := { src := 0x0000, dst := 0x8000, remaining := 0, active := false }
    cart := { mbc := mbcOfHeader (rom.get 0x147), battery := batteryOfHeader (rom.get 0x147),
              romLength := romLength, rom := rom, ram := Memory.ofBytes (ram.cartRam.take 0x20000),
              mbc2Ram := Memory.ofBytes ((ram.mbc2Ram.take 512).map (· &&& 0x0F)),
              romBank := 1, ramBank := 0, ramEnabled := false, mbc1RamMode := false,
              rtcLive := [], rtcLatched := [], rtcIsLatched := false }
    apu := { regs := Memory.ofBytesFrom 0x10 (boot.apu.take 23), wave := Memory.ofBytes (ram.wave.take 16),
             ch1 := Channel.atReset .square, ch2 := Channel.atReset .square, ch3 := Channel.atReset .wave,
             ch4 := Channel.atReset .noise, lfsr := boot.lfsr.value, narrow := false,
             soundEnabled := soundEnabled }
    wram := Memory.ofBytes (ram.wram.take 0x8000), hram := Memory.ofBytes (ram.hram.take 127)
    svbk := 0, ifr := if boot.if0 then 1 else 0, ie := 0x00, p1 := 0, inputMask := 0xFF
    doubleSpeed := false, speedArmed := false, cgbMode := cgbModeOf requestCgb support, supportMode := support
    frameCarry := 0, fault := none, draws := 0, cost := 0, charge := 0 }

/-- The machine right after construction (70 R801, R803) with a ROM-only cartridge of 32 KB of 0x00, DMG mode, the
DMG defaults of `BootState` and nothing listed in memory. A cartridge is what construct is given; here it holds no
program (log 4). DIV is 0x00 (log 5), soundEnabled true (log 4), the LFSR
0x7FFF (log 21). -/
def State.reset : State := initialState 0x8000 [] false true (dmgBoot 0x00) InitialRam.empty

end Sys2Proof.Machine
end

