-- ==== Sys2Proof/Machine/Flags.lean ====
section
/-! DEFINITION. F as a byte (10 R22) and every result and flag computation of the instruction rules (40 R222,
41 R251 to R266, 42 R302, R303, 43 R330 to R345), each a function of operands and flags. -/

namespace Sys2Proof.Machine

/-- F as read (10 R22): Z, N, H, C in bits 7 to 4, and 0 in bits 3:0. -/
def Flags.toByte (f : Flags) : Byte := bit1 f.z ++ bit1 f.n ++ bit1 f.h ++ bit1 f.c ++ (0 : BitVec 4)

/-- F as written (10 R22): a write stores `v & 0xF0`. -/
def Flags.ofByte (v : Byte) : Flags := { z := bitOf v 7, n := bitOf v 6, h := bitOf v 5, c := bitOf v 4 }

/-- ADD and ADC (41 R251, R252): the sum and its flags, `c` the carry in. -/
def add8 (a s : Byte) (c : Bool) : Byte × Flags :=
  let r := a.toNat + s.toNat + c.toNat
  (BitVec.ofNat 8 r,
   { z := decide (r % 256 = 0), n := false, h := decide (lowNibble a + lowNibble s + c.toNat > 0x0F),
     c := decide (r > 0xFF) })

/-- SUB, SBC and CP (41 R253, R254, R258): the difference mod 256 and its flags, `c` the borrow in. -/
def sub8 (a s : Byte) (c : Bool) : Byte × Flags :=
  let r := BitVec.ofInt 8 ((a.toNat : Int) - s.toNat - c.toNat)
  (r, { z := decide (r = 0), n := true, h := decide (lowNibble a < lowNibble s + c.toNat),
        c := decide (a.toNat < s.toNat + c.toNat) })

/-- The flags of AND (h = true), XOR and OR (41 R255 to R257) of a result. -/
def logicFlags (r : Byte) (h : Bool) : Flags := { z := decide (r = 0), n := false, h := h, c := false }

/-- INC of a byte (41 R259): C is kept. -/
def inc8 (v : Byte) (f : Flags) : Byte × Flags :=
  let r := v + 1
  (r, { f with z := decide (r = 0), n := false, h := decide (lowNibble v = 0x0F) })

/-- DEC of a byte (41 R261): C is kept. -/
def dec8 (v : Byte) (f : Flags) : Byte × Flags :=
  let r := v - 1
  (r, { f with z := decide (r = 0), n := true, h := decide (lowNibble v = 0x00) })

/-- DAA's adjustment (41 R263): both tests of the addition branch read A before the adjustment. -/
def daaAdjust (a : Byte) (f : Flags) : Byte :=
  if f.n then
    (if f.c then 0x60 else 0x00) ||| (if f.h then 0x06 else 0x00)
  else
    (if f.c ∨ a.toNat > 0x99 then 0x60 else 0x00) ||| (if f.h ∨ lowNibble a > 0x09 then 0x06 else 0x00)

/-- DAA (41 R263): N unchanged, H cleared, C set or kept. -/
def daa (a : Byte) (f : Flags) : Byte × Flags :=
  let adj := daaAdjust a f
  let r := if f.n then a - adj else a + adj
  let c := if f.n then f.c else f.c || decide (a.toNat > 0x99)
  (r, { z := decide (r = 0), n := f.n, h := false, c := c })

/-- ADD HL,rr (42 R302): Z is kept; H is the carry out of bit 11, C out of bit 15. -/
def add16 (hl v : Word) (f : Flags) : Word × Flags :=
  (hl + v,
   { z := f.z, n := false, h := decide (hl.toNat % 0x1000 + v.toNat % 0x1000 > 0x0FFF),
     c := decide (hl.toNat + v.toNat > 0xFFFF) })

/-- SP plus a signed displacement (40 R222, 42 R303): Z and N are 0; H and C are the carries of the unsigned add of
the byte e to the low byte of SP. -/
def addSp (sp : Word) (e : Byte) : Word × Flags :=
  (sp + sext16 e,
   { z := false, n := false, h := decide (sp.toNat % 16 + lowNibble e > 0x0F),
     c := decide (sp.toNat % 256 + e.toNat > 0xFF) })

/-- Rotate left, bit 7 to bit 0 and to C (43 R330, R335). -/
def rlc8 (v : Byte) : Byte × Bool :=
  ((v <<< 1) ||| (if bitOf v 7 then 1 else 0), bitOf v 7)

/-- Rotate right, bit 0 to bit 7 and to C (43 R331, R336). -/
def rrc8 (v : Byte) : Byte × Bool :=
  ((v >>> 1) ||| (if bitOf v 0 then 0x80 else 0), bitOf v 0)

/-- Rotate left through the carry (43 R332, R337). -/
def rl8 (v : Byte) (c0 : Bool) : Byte × Bool :=
  ((v <<< 1) ||| (if c0 then 1 else 0), bitOf v 7)

/-- Rotate right through the carry (43 R333, R338). -/
def rr8 (v : Byte) (c0 : Bool) : Byte × Bool :=
  ((v >>> 1) ||| (if c0 then 0x80 else 0), bitOf v 0)

/-- Shift left, 0 into bit 0 (43 R339). -/
def sla8 (v : Byte) : Byte × Bool := (v <<< 1, bitOf v 7)

/-- Shift right arithmetic, bit 7 kept (43 R340). -/
def sra8 (v : Byte) : Byte × Bool := ((v >>> 1) ||| (v &&& 0x80), bitOf v 0)

/-- Exchange the nibbles; C is 0 (43 R341). -/
def swap8 (v : Byte) : Byte × Bool := ((v <<< 4) ||| (v >>> 4), false)

/-- Shift right logical, 0 into bit 7 (43 R342). -/
def srl8 (v : Byte) : Byte × Bool := (v >>> 1, bitOf v 0)

/-- The flags of the accumulator rotates (43 R330 to R333): Z, N and H are 0. -/
def accRotFlags (c : Bool) : Flags := { z := false, n := false, h := false, c := c }

/-- The flags of the CB rotates, shifts and SWAP (43 R335 to R342): Z from the result, N and H 0. -/
def cbRotFlags (r : Byte) (c : Bool) : Flags := { z := decide (r = 0), n := false, h := false, c := c }

/-- BIT (43 R343): Z the complement of the tested bit, N 0, H 1, C kept. -/
def bitFlags (v : Byte) (b : Nat) (f : Flags) : Flags := { f with z := !bitOf v b, n := false, h := true }

/-- RES (43 R344): `v & (0xFF ^ (1 << b))`. -/
def res8 (v : Byte) (b : Nat) : Byte := v &&& (0xFF ^^^ ((1 : Byte) <<< b))

/-- SET (43 R345): `v | (1 << b)`. -/
def set8Bit (v : Byte) (b : Nat) : Byte := v ||| ((1 : Byte) <<< b)

end Sys2Proof.Machine
end

