-- ==== Sys2Proof/Machine/Cartridge.lean ====
section
/-! DEFINITION. The cartridge and its bank controllers (20 R150 to R169): reads of the ROM window and of the RAM
window, writes to both. -/

namespace Sys2Proof.Machine

/-- What a read gives (10 R39): the bits backed by state, and which bits are draws (their bits in `value` are 0). -/
structure ReadBits where
  value : Byte
  drawn : Byte
  deriving DecidableEq, Repr

/-- A byte wholly backed by state. -/
def ReadBits.stored (v : Byte) : ReadBits := { value := v, drawn := 0x00 }

/-- A byte no bit of which is backed by state: all a draw (20 R107). -/
def ReadBits.floating : ReadBits := { value := 0x00, drawn := 0xFF }

/-- 20 R153: the ROM index of a 16-bit address below 0x8000. -/
def romIndex (c : Cart) (n : Nat) : Nat :=
  if n < 0x4000 then n
  else (if c.mbc = .romOnly then 1 else c.romBank.toNat) * 0x4000 + (n - 0x4000)

/-- 20 R153: `CartRomRead(a)`. -/
def peekRom (c : Cart) (n : Nat) : Except Fault ReadBits :=
  if romIndex c n < c.romLength then .ok (.stored (c.rom.get (romIndex c n)))
  else .error (.romOutOfRange (romIndex c n))

/-- Where an access to the RAM window goes (20 R154, R160, R163, R168, R169). -/
inductive RamTarget where
  /-- No RAM, or RAM disabled: a read is a draw, a write is ignored. -/
  | absent
  /-- A byte of the cartridge RAM array. -/
  | ram (i : Nat)
  /-- A 4-bit entry of the MBC2 RAM. -/
  | nibble (i : Nat)
  /-- A byte of the RTC registers in use, live or latched. -/
  | rtc (i : Nat)
  /-- An RTC index the arrays do not have: a fault. -/
  | badRtc (bank : Byte)
  deriving DecidableEq, Repr

/-- 20 R154, R160, R163, R168, R169: the target of an access at address n in 0xA000 to 0xBFFF. -/
def ramTarget (c : Cart) (n : Nat) : RamTarget :=
  if c.mbc = .romOnly ∨ c.ramEnabled = false then .absent
  else
    match c.mbc with
    | .romOnly => .absent
    | .mbc1 => .ram (c.ramBank.toNat * 0x2000 + (n - 0xA000))
    | .mbc2 => .nibble ((n - 0xA000) % 0x200)
    | .mbc3 =>
      if c.ramBank.toNat < 4 then .ram (c.ramBank.toNat * 0x2000 + (n - 0xA000))
      else if c.ramBank.toNat ≤ 0x0F then .rtc c.ramBank.toNat
      else .badRtc c.ramBank
    | .mbc5 => .ram (c.ramBank.toNat * 0x2000 + (n - 0xA000))

/-- 20 R154: `CartRamRead(a)`. -/
def peekCartRam (c : Cart) (n : Nat) : Except Fault ReadBits :=
  match ramTarget c n with
  | .absent => .ok .floating
  | .ram i => .ok (.stored (c.ram.get i))
  | .nibble i => .ok { value := c.mbc2Ram.get i &&& 0x0F, drawn := 0xF0 }
  | .rtc i => .ok (.stored (if c.rtcIsLatched then c.rtcLatched.get i else c.rtcLive.get i))
  | .badRtc b => .error (.rtcIndexOutOfRange b)

/-- 20 R154: `CartRamWrite(a, v)`. -/
def writeCartRam (c : Cart) (n : Nat) (v : Byte) : Except Fault Cart :=
  match ramTarget c n with
  | .absent => .ok c
  | .ram i => .ok { c with ram := c.ram.set i v }
  | .nibble i => .ok { c with mbc2Ram := c.mbc2Ram.set i (v &&& 0x0F) }
  | .rtc i =>
    .ok (if c.rtcIsLatched then { c with rtcLatched := c.rtcLatched.set i v }
         else { c with rtcLive := c.rtcLive.set i v })
  | .badRtc b => .error (.rtcIndexOutOfRange b)

/-- 20 R156, D27: the RAM enable of MBC1, MBC2 and MBC5 by the low nibble: 0xA enables, 0x0 disables, any other
value leaves it. -/
def ramEnableOf (old : Bool) (v : Byte) : Bool :=
  if v &&& 0x0F = 0x0A then true else if v &&& 0x0F = 0x00 then false else old

/-- 20 R157: the MBC1 zero-skip. -/
def mbc1Bump (b : Byte) : Byte :=
  if b = 0x00 ∨ b = 0x20 ∨ b = 0x40 ∨ b = 0x60 then b + 1 else b

/-- 20 R162, R165: a bank number 0 becomes 1. -/
def zeroSkip (b : Byte) : Byte := if b = 0 then 1 else b

/-- 20 R156 to R159: an MBC1 control write. -/
def mbc1Control (c : Cart) (n : Nat) (v : Byte) : Cart :=
  if n < 0x2000 then { c with ramEnabled := ramEnableOf c.ramEnabled v }
  else if n < 0x4000 then { c with romBank := mbc1Bump ((c.romBank &&& 0x60) ||| (v &&& 0x1F)) }
  else if n < 0x6000 then
    if c.mbc1RamMode then { c with ramBank := v &&& 0x03 }
    else { c with romBank := mbc1Bump (((v &&& 0x03) <<< 5) ||| (c.romBank &&& 0x1F)) }
  else if bitOf v 0 then { c with mbc1RamMode := true, romBank := c.romBank &&& 0x1F }
  else { c with mbc1RamMode := false, ramBank := 0 }

/-- 20 R161, R162: an MBC2 control write; address bit 8 selects. -/
def mbc2Control (c : Cart) (n : Nat) (v : Byte) : Cart :=
  if n < 0x2000 then
    if n.testBit 8 then c else { c with ramEnabled := ramEnableOf c.ramEnabled v }
  else if n < 0x4000 then
    if n.testBit 8 then { c with romBank := zeroSkip (v &&& 0x0F) } else c
  else c

/-- 20 R164 to R167: an MBC3 control write; the latch copies the latched bytes over the live ones (90 C7). -/
def mbc3Control (c : Cart) (n : Nat) (v : Byte) : Cart :=
  if n < 0x2000 then { c with ramEnabled := decide (v &&& 0x0A ≠ 0) }
  else if n < 0x4000 then { c with romBank := zeroSkip (v &&& 0x7F) }
  else if n < 0x6000 then { c with ramBank := v }
  else if v = 0x01 then { c with rtcIsLatched := false }
  else if v = 0x00 then { c with rtcIsLatched := true, rtcLive := c.rtcLatched }
  else c

/-- 20 R169: an MBC5 control write. -/
def mbc5Control (c : Cart) (n : Nat) (v : Byte) : Cart :=
  if n < 0x2000 then { c with ramEnabled := ramEnableOf c.ramEnabled v }
  else if n < 0x4000 then { c with romBank := v }
  else if n < 0x6000 then { c with ramBank := v &&& 0x0F }
  else c

/-- 20 R105, R155: `CartControlWrite(a, v)` at address n below 0x8000; ROM bytes never change. -/
def cartControl (c : Cart) (n : Nat) (v : Byte) : Cart :=
  match c.mbc with
  | .romOnly => c
  | .mbc1 => mbc1Control c n v
  | .mbc2 => mbc2Control c n v
  | .mbc3 => mbc3Control c n v
  | .mbc5 => mbc5Control c n v

end Sys2Proof.Machine
end

