-- ==== Sys2Proof/Machine/Res.lean ====
section
/-! DEFINITION. The result of an operation that can raise a fault part way (00 R11, 60 R545): a value and the state,
or the fault and the state as it is at that point, with every effect already made. -/

namespace Sys2Proof.Machine

/-- What an operation answers: a value and the next state, or a fault and the state it leaves (60 R545). -/
inductive Res (α : Type) where
  | ok (a : α) (s : State)
  | stop (r : Fault) (s : State)
  deriving DecidableEq, Repr

/-- Go on with the value and the state; after a fault nothing more happens (60 R545). -/
def Res.bind {α β : Type} (x : Res α) (k : α → State → Res β) : Res β :=
  match x with
  | .ok a s => k a s
  | .stop r s => .stop r s

/-- Go on with a change of the state that cannot fault. -/
def Res.then {α : Type} (x : Res α) (k : α → State → State) : Res Unit :=
  x.bind fun a s => .ok () (k a s)

/-- 10 R68, 60 R545: `raise Fault(r)` sets the field `fault`; the effects already made stay. Log 1. -/
def recordFault (r : Fault) (s : State) : State := { s with fault := some r }

/-- The outcome of an instruction or a step: the next state, with the fault recorded where one was raised. -/
def Res.outcome (x : Res Unit) : Host.Outcome State Fault Refusal :=
  match x with
  | .ok _ s => .next s
  | .stop r s => .next (recordFault r s)

end Sys2Proof.Machine
end

