-- ==== Sys2Proof/Machine/Sound.lean ====
section
/-! DEFINITION. The APU (62): register writes and the trigger, frequencies, length, envelope, sweep, waveforms, and
the sampler's Sample(). Reals are rationals (log 11); the output parameters are OPEN (log 12). -/

namespace Sys2Proof.Machine

/-- The four channels (62 R700). -/
inductive Chan where
  | one | two | three | four
  deriving DecidableEq, Repr

/-- The channel's number n. -/
def Chan.num : Chan → Nat
  | .one => 1
  | .two => 2
  | .three => 3
  | .four => 4

def Apu.chan (s : Apu) : Chan → Channel
  | .one => s.ch1
  | .two => s.ch2
  | .three => s.ch3
  | .four => s.ch4

def Apu.setChan (s : Apu) (n : Chan) (c : Channel) : Apu :=
  match n with
  | .one => { s with ch1 := c }
  | .two => { s with ch2 := c }
  | .three => { s with ch3 := c }
  | .four => { s with ch4 := c }

/-- 62 R701: NRnk, at 0xFF10 + 5 * (n - 1) + k; the array is indexed by the low byte of the address. -/
def Apu.nr (s : Apu) (n : Chan) (k : Nat) : Byte := s.regs.get (0x10 + 5 * (n.num - 1) + k)

/-- NR50 (10 R62). -/
def Apu.nr50 (s : Apu) : Byte := s.regs.get 0x24

/-- NR51 (10 R62). -/
def Apu.nr51 (s : Apu) : Byte := s.regs.get 0x25

/-- NR52 (10 R62). -/
def Apu.nr52 (s : Apu) : Byte := s.regs.get 0x26

/-- 62 R701: the 11-bit register pair `{NRn4[2:0], NRn3}`. -/
def Apu.regPair (s : Apu) (n : Chan) : BitVec 11 :=
  (s.nr n 4).extractLsb' 0 3 ++ s.nr n 3

/-- 62 R704, Square: `131072 / (2048 - reg)`. -/
def squareHz (reg : BitVec 11) : Rat := 131072 / ((2048 - reg.toNat : Nat) : Rat)

/-- 62 R704, Wave: `65536 / (2048 - reg)`. -/
def waveHz (reg : BitVec 11) : Rat := 65536 / ((2048 - reg.toNat : Nat) : Rat)

/-- 62 R704, Noise: `524288 / d / 2^(s + 1)` with s = NR43[7:4], d = NR43[2:0], and d = 0 taken as 0.5. -/
def noiseHz (nr43 : Byte) : Rat :=
  let d : Nat := (nr43.extractLsb' 0 3).toNat
  let s : Nat := (nr43.extractLsb' 4 4).toNat
  524288 / (if d = 0 then 1 / 2 else (d : Rat)) / (2 ^ (s + 1) : Nat)

/-- 62 R704: `Frequency(n)`. -/
def Apu.frequency (s : Apu) (n : Chan) : Rat :=
  match n with
  | .one => squareHz (s.regPair .one)
  | .two => squareHz (s.regPair .two)
  | .three => waveHz (s.regPair .three)
  | .four => noiseHz (s.nr .four 3)

/-- 62 R706: `LengthSamples(n)` at a sample rate. -/
def Apu.lengthSamples (s : Apu) (rate : Nat) (n : Chan) : Nat :=
  match n with
  | .three => (256 - (s.nr .three 1).toNat) * rate / 256
  | n => (64 - ((s.nr n 1).extractLsb' 0 6).toNat) * rate / 256

/-- 62 R707: `EnvelopeReset(n)`. -/
def Apu.envelopeReset (s : Apu) (rate : Nat) (n : Chan) (c : Channel) : Channel :=
  match n with
  | .three => { c with amplitude := 15, envSamplesPerStep := 0, envTarget := 0 }
  | n =>
    let r := s.nr n 2
    let amp : BitVec 4 := r.extractLsb' 4 4
    { c with amplitude := amp, envDir := bitOf r 3,
             envSamplesPerStep := (r.extractLsb' 0 3).toNat * rate / 64, envStep := 0,
             envTarget := if bitOf r 3 then 15 - amp.toNat else amp.toNat }

/-- 62 R708: `SweepReset(n)`, from NR10 or NR20. -/
def Apu.sweepReset (s : Apu) (rate : Nat) (n : Chan) (c : Channel) : Channel :=
  let r := s.nr n 0
  { c with sweepLen := (r.extractLsb' 4 3).toNat * rate / 128, sweepDir := bitOf r 3,
           sweepSteps := (r.extractLsb' 0 3).toNat, sweepCount := 0 }

/-- 62 R700: the channels with a sweep. -/
def Chan.hasSweep : Chan → Bool
  | .one => true
  | .two => true
  | .three => false
  | .four => false

/-- 62 R703: what a trigger does to its channel, at a sample rate. It takes the duty too, so that a later write of NRn1 is
not heard before the next trigger (62 R702; log 20). -/
def Apu.triggered (s : Apu) (rate : Nat) (n : Chan) : Channel :=
  let c := s.chan n
  let c := { c with on := true, freqHz := s.frequency n }
  let c := if n.hasSweep then { c with shadow := s.regPair n, duty := (s.nr n 1).extractLsb' 6 2 } else c
  let c := { c with duration := if bitOf (s.nr n 4) 6 then some (s.lengthSamples rate n) else none }
  let c := s.envelopeReset rate n c
  let c := if n.hasSweep then s.sweepReset rate n c else c
  { c with phase := 0 }

/-- 62 R703: `Trigger(n)`. Channel 4 takes the LFSR's width too (62 R702; log 20). -/
def Apu.trigger (s : Apu) (rate : Nat) (n : Chan) : Apu :=
  let s' := s.setChan n (s.triggered rate n)
  if n = .four then { s' with lfsr := 0x7FFF, narrow := bitOf (s.nr .four 3) 3 } else s'

/-- 62 R702: the channel a write to the register at low address byte `p` can trigger. -/
def triggerChan (p : Byte) : Option Chan :=
  if p = 0x14 then some .one
  else if p = 0x19 then some .two
  else if p = 0x1E then some .three
  else if p = 0x23 then some .four
  else none

/-- 62 R702 at a sample rate: a CPU write to 0xFF10 to 0xFF26 stores the byte, then triggers if it is an NRn4 with
bit 7 set. -/
def Apu.writeAt (s : Apu) (rate : Nat) (p v : Byte) : Apu :=
  let s := { s with regs := s.regs.set p.toNat v }
  match triggerChan p with
  | some n => if bitOf v 7 then s.trigger rate n else s
  | none => s

/-- 62 R702 at the machine's sample rate (log 12). -/
def Apu.write (s : Apu) (p v : Byte) : Apu := s.writeAt Config.sampleRate p v

/-- 62 R711: one clock of the noise LFSR; `narrow` is its 7-bit mode. -/
def lfsrClock (narrow : Bool) (x : BitVec 15) : BitVec 15 :=
  let b := x.getLsbD 0 ^^ x.getLsbD 1
  let y := (x >>> 1) ||| (if b then 0x4000 else 0)
  if narrow then (y &&& 0x7FBF) ||| (if b then 0x0040 else 0) else y

/-- `k` clocks of the LFSR (62 R711). -/
def lfsrClocks (narrow : Bool) : Nat → BitVec 15 → BitVec 15
  | 0, x => x
  | k + 1, x => lfsrClocks narrow k (lfsrClock narrow x)

/-- 62 R710: the duty of NRn1[7:6]. -/
def dutyOf (d : BitVec 2) : Rat :=
  if d = 0 then 1 / 8 else if d = 1 then 1 / 4 else if d = 2 then 1 / 2 else 3 / 4

/-- 62 R710: the 4-bit sample number k of wave RAM; sample 2i is the high nibble of byte i. -/
def Apu.waveSample (s : Apu) (k : Nat) : Nat :=
  let b := (s.wave.get (k / 2)).toNat
  if k % 2 = 0 then b / 16 else b % 16

/-- 62 R705, R710: the shift of NR32[6:5]. -/
def waveShift (l : BitVec 2) : Nat :=
  if l = 0 then 4 else if l = 1 then 0 else if l = 2 then 1 else 2

/-- 62 R710: the digital value of a channel at a sample, 0 to 15. The duty is the one of the last trigger (62 R702;
log 20), the level NR32[6:5] and the switch NR30[7] those of the sample (R705). -/
def Apu.waveform (s : Apu) (n : Chan) : Nat :=
  let c := s.chan n
  if c.on = false then 0
  else
    match c.kind with
    | .square => if c.phase < dutyOf c.duty then c.amplitude.toNat else 0
    | .wave =>
      if bitOf (s.nr .three 0) 7 then
        s.waveSample (c.phase * 32).floor.toNat >>> waveShift ((s.nr .three 2).extractLsb' 5 2)
      else 0
    | .noise => if s.lfsr.getLsbD 0 then 0 else c.amplitude.toNat

/-- 62 R706: a sample of an on channel with finite duration decrements it; at 0 the channel turns off. -/
def Channel.advanceDuration (c : Channel) : Channel :=
  match c.duration with
  | none => c
  | some d => { c with duration := some (d - 1), on := c.on && decide (d - 1 ≠ 0) }

/-- 62 R707: the envelope at a sample. -/
def Channel.advanceEnvelope (c : Channel) : Channel :=
  if 0 < c.envSamplesPerStep ∧ 0 < c.envTarget then
    if c.envStep + 1 = c.envSamplesPerStep then
      { c with envStep := 0, amplitude := if c.envDir then c.amplitude + 1 else c.amplitude - 1,
               envTarget := c.envTarget - 1 }
    else { c with envStep := c.envStep + 1 }
  else c

/-- 62 R708: the sweep at a sample. -/
def Channel.advanceSweep (c : Channel) : Channel :=
  if 0 < c.sweepLen ∧ 0 < c.sweepSteps then
    if c.sweepCount + 1 = c.sweepLen then
      let d := c.shadow.toNat >>> c.sweepSteps
      let new := if c.sweepDir then c.shadow.toNat - d else c.shadow.toNat + d
      if new > 2047 then { c with sweepCount := 0, on := false }
      else { c with sweepCount := 0, shadow := BitVec.ofNat 11 new, freqHz := squareHz (BitVec.ofNat 11 new) }
    else { c with sweepCount := c.sweepCount + 1 }
  else c

/-- 62 R720: the phase after a sample. -/
def Channel.advancePhase (c : Channel) (rate : Nat) : Channel :=
  let p := c.phase + c.freqHz / (rate : Rat)
  { c with phase := p - (p.floor : Rat) }

/-- 62 R711, R720: how many whole periods the phase passes in a sample. -/
def Channel.wholePeriods (c : Channel) (rate : Nat) : Nat :=
  (c.phase + c.freqHz / (rate : Rat)).floor.toNat

/-- 62 R720: what a sample does to channel n: nothing while it is off. Whether it is on is tested once, at the
sample's start (log 13). The LFSR's width is the one of the last trigger (62 R702; log 20). -/
def Apu.advance (s : Apu) (rate : Nat) (n : Chan) : Apu :=
  let c := s.chan n
  if c.on = false then s
  else
    let s := if n = .four then
        { s with lfsr := lfsrClocks s.narrow (c.wholePeriods rate) s.lfsr }
      else s
    let c := ((c.advancePhase rate).advanceDuration).advanceEnvelope
    s.setChan n (if n.hasSweep then c.advanceSweep else c)

/-- 62 R720: the state after one `Sample()`, channels 1 to 4 in order. -/
def Apu.afterSample (s : Apu) (rate : Nat) : Apu :=
  (((s.advance rate .one).advance rate .two).advance rate .three).advance rate .four

/-- 62 R720: the routed values, those of the channels whose NR51 bit is set; `left` reads bits 4 to 7. -/
def Apu.routed (s : Apu) (left : Bool) : List Nat :=
  ([Chan.one, .two, .three, .four].filter fun n =>
    bitOf s.nr51 (if left then 3 + n.num else n.num - 1)).map fun n => s.waveform n

/-- 62 R720: the pair of output samples, silence while NR52[7] = 0. The registers and values are those before the
state advances; no register changes in a sample. -/
def Apu.output (s : Apu) : Int × Int :=
  if bitOf s.nr52 7 then
    (Config.mix (s.routed true) (s.nr50.extractLsb' 4 3), Config.mix (s.routed false) (s.nr50.extractLsb' 0 3))
  else (0, 0)

end Sys2Proof.Machine
end

