-- ==== Sys2Proof/Machine/Bus.lean ====
section
/-! DEFINITION. The memory bus (20 R100 to R149): MemRead and MemWrite over the whole 16-bit address space, the I/O
registers with their write side effects, OAM DMA and HDMA. `peek` is the read without its draws; `busRead` is
`MemRead(a, 1)`, `busWrite` is `MemWrite(a, 1, v)`. -/

namespace Sys2Proof.Machine

/-- 20 R111: the WRAM bank at 0xD000 to 0xDFFF: 1 in DMG mode; SVBK in CGB mode, 0 selecting 1 (D49). -/
def wramBank (s : State) : Nat :=
  if s.cgbMode then (if s.svbk = 0 then 1 else s.svbk.toNat) else 1

/-- 20 R112: the VRAM bank the CPU sees: 0 in DMG mode, VBK[0] in CGB mode. -/
def vramBank (s : State) : Nat := if s.cgbMode && s.ppu.vbk then 1 else 0

/-- 20 R103, R111: the WRAM array index of an address n in 0xC000 to 0xDFFF. -/
def wramIndex (s : State) (n : Nat) : Nat :=
  if n < 0xD000 then n - 0xC000 else wramBank s * 0x1000 + (n - 0xD000)

/-- 20 R103, R112: the VRAM array index of an address n in 0x8000 to 0x9FFF. -/
def vramIndex (s : State) (n : Nat) : Nat := vramBank s * 0x2000 + (n - 0x8000)

/-- 60 R531: P1's input lines: buttons when P1[5] = 0, directions when P1[4] = 0, both ANDed, neither 0xF. -/
def joypadLines (s : State) : BitVec 4 :=
  (if s.p1.getLsbD 1 then 0xF else s.inputMask.extractLsb' 0 4) &&&
    (if s.p1.getLsbD 0 then 0xF else s.inputMask.extractLsb' 4 4)

/-- 10 R49: STAT[1:0], 0 while the LCD is off. -/
def statMode (p : Ppu) : BitVec 2 := if bitOf p.lcdc 7 then p.mode else 0

/-- 20 R143: the read of HDMA5. -/
def hdma5Value (h : Hdma) : Byte :=
  if h.active then BitVec.ofNat 8 (h.remaining - 1)
  else if h.remaining = 0 then 0xFF
  else 0x80 ||| BitVec.ofNat 8 (h.remaining - 1)

/-- 10 R60: the read of BCPS or OCPS. -/
def palIndexBits (x : PalIndex) : ReadBits := { value := bit1 x.autoinc ++ (0 : BitVec 1) ++ x.index, drawn := 0x40 }

/-- 20 R115: `IoRead` of the CGB-only registers, by low address byte; in DMG mode they are unmapped. -/
def peekCgbIo (p : Byte) (s : State) : ReadBits :=
  if s.cgbMode = false then .floating
  else if p = 0x4D then { value := bit1 s.doubleSpeed ++ (0 : BitVec 6) ++ bit1 s.speedArmed, drawn := 0x7E }
  else if p = 0x4F then { value := (0 : BitVec 7) ++ bit1 s.ppu.vbk, drawn := 0xFE }
  else if p = 0x55 then .stored (hdma5Value s.hdma)
  else if p = 0x68 then palIndexBits s.ppu.bcps
  else if p = 0x69 then .stored (s.ppu.bgPal.get s.ppu.bcps.index.toNat)
  else if p = 0x6A then palIndexBits s.ppu.ocps
  else if p = 0x6B then .stored (s.ppu.objPal.get s.ppu.ocps.index.toNat)
  else if p = 0x70 then { value := (0 : BitVec 5) ++ s.svbk, drawn := 0xF8 }
  else .floating

/-- 20 R115: `IoRead(a)` for a = 0xFF00 + p, p below 0x80. -/
def peekIo (p : Byte) (s : State) : ReadBits :=
  if p = 0x00 then { value := (0 : BitVec 2) ++ s.p1 ++ joypadLines s, drawn := 0xC0 }
  else if p = 0x04 then .stored s.timer.div
  else if p = 0x05 then .stored s.timer.tima
  else if p = 0x06 then .stored s.timer.tma
  else if p = 0x07 then { value := (0 : BitVec 5) ++ s.timer.tac, drawn := 0xF8 }
  else if p = 0x0F then { value := (0 : BitVec 3) ++ s.ifr, drawn := 0xE0 }
  else if 0x30 ≤ p ∧ p ≤ 0x3F then .stored (s.apu.wave.get (p.toNat - 0x30))
  else if p = 0x40 then .stored s.ppu.lcdc
  else if p = 0x41 then
    { value := (0 : BitVec 1) ++ s.ppu.statSel ++ bit1 s.ppu.prevCoin ++ statMode s.ppu, drawn := 0x80 }
  else if p = 0x42 then .stored s.ppu.scy
  else if p = 0x43 then .stored s.ppu.scx
  else if p = 0x44 then .stored s.ppu.ly
  else if p = 0x45 then .stored s.ppu.lyc
  else if p = 0x47 then .stored s.ppu.bgp
  else if p = 0x48 then .stored s.ppu.obp0
  else if p = 0x49 then .stored s.ppu.obp1
  else if p = 0x4A then .stored s.ppu.wy
  else if p = 0x4B then .stored s.ppu.wx
  else peekCgbIo p s

/-- 20 R103: what `MemRead(a, 1)` finds at address a: stored bits, drawn bits, or a fault. -/
def peek (a : Word) (s : State) : Except Fault ReadBits :=
  let n := a.toNat
  if n < 0x8000 then peekRom s.cart n
  else if n < 0xA000 then .ok (.stored (s.ppu.vram.get (vramIndex s n)))
  else if n < 0xC000 then peekCartRam s.cart n
  else if n < 0xE000 then .ok (.stored (s.wram.get (wramIndex s n)))
  else if n < 0xFE00 then .ok (.stored (s.wram.get (wramIndex s (n - 0x2000))))
  else if n < 0xFEA0 then .ok (.stored (s.ppu.oam.get (n - 0xFE00)))
  else if n < 0xFF00 then .ok .floating
  else if n < 0xFF80 then .ok (peekIo (loByte a) s)
  else if n < 0xFFFF then .ok (.stored (s.hram.get (n - 0xFF80)))
  else .ok (.stored s.ie)

/-- 00 R12: complete a read with a fresh draw for its unbacked bits; a read with none takes no draw. Log 2. -/
def resolve (r : ReadBits) (s : State) : Res Byte :=
  if r.drawn = 0 then .ok r.value s
  else .ok (r.value ||| (Config.draw s.draws &&& r.drawn)) { s with draws := s.draws + 1 }

/-- 20 R103, R106: `MemRead(a, 1)`. It changes no state but the count of draws taken. -/
def busRead (a : Word) (s : State) : Res Byte :=
  match peek a s with
  | .ok r => resolve r s
  | .error e => .stop e s

/-- 20 R140: copy `n` bytes of OAM DMA from index `i` on, page `v`. -/
def oamDma (v : Byte) : Nat → Nat → State → Res Unit
  | _, 0, s => .ok () s
  | i, n + 1, s =>
    (busRead (mkWord v 0 + BitVec.ofNat 16 i) s).bind fun b s =>
      oamDma v (i + 1) n { s with ppu.oam := s.ppu.oam.set i b }

/-- 20 R142: `CopyByte()`, the VRAM bank read at each byte. The destination is taken within the 0x2000 bytes of the
bank, where `hdmaDst` always points (log 15). -/
def copyByte (s : State) : Res Unit :=
  (busRead s.hdma.src s).then fun b s =>
    { s with
      ppu.vram := s.ppu.vram.set (vramBank s * 0x2000 + (s.hdma.dst &&& 0x1FFF).toNat) b
      hdma.src := s.hdma.src + 1
      hdma.dst := 0x8000 ||| ((s.hdma.dst + 1) &&& 0x1FFF) }

/-- 20 R142, R144: `CopyByte()` n times. -/
def copyBytes : Nat → State → Res Unit
  | 0, s => .ok () s
  | n + 1, s => (copyByte s).bind fun _ s => copyBytes n s

/-- 20 R142: the write of HDMA5. -/
def writeHdma5 (v : Byte) (s : State) : Res Unit :=
  let len := (v.extractLsb' 0 7).toNat + 1
  if s.hdma.active ∧ bitOf v 7 = false then .ok () { s with hdma.active := false }
  else if bitOf v 7 = false then
    (copyBytes (len * 16) s).then fun _ s => { s with hdma.remaining := 0, hdma.active := false }
  else .ok () { s with hdma.remaining := len, hdma.active := true }

/-- 20 R144: the H-blank block, when the PPU enters mode 0. -/
def hdmaHblankBlock (s : State) : Res Unit :=
  if s.hdma.active then
    (copyBytes 16 s).then fun _ s =>
      { s with hdma.remaining := s.hdma.remaining - 1, hdma.active := decide (s.hdma.remaining - 1 ≠ 0) }
  else .ok () s

/-- 20 R131, D19: the timer counter after a TAC write that changed the period or not; 0 stays 0 whatever the
parameter (log 9). -/
def tacCounter (changed : Bool) : Nat → Nat
  | 0 => 0
  | k + 1 => if changed && Config.tacWriteResetsCounter then 0 else k + 1

/-- 20 R131: a TAC write. -/
def writeTac (v : Byte) (t : Timer) : Timer :=
  { t with
    tac := v.extractLsb' 0 3
    timerCounter := tacCounter (decide (v.extractLsb' 0 2 ≠ t.tac.extractLsb' 0 2)) t.timerCounter }

/-- 20 R132: the palette index after a data write. -/
def palIndexNext (x : PalIndex) : PalIndex := if x.autoinc then { x with index := x.index + 1 } else x

/-- 20 R115, R130: a write of BCPS or OCPS. -/
def palIndexOf (v : Byte) : PalIndex := { autoinc := bitOf v 7, index := v.extractLsb' 0 6 }

/-- 20 R115: `IoWrite` of the CGB-only registers (R130, R132, R141, R142); in DMG mode they are unmapped. -/
def writeCgbIo (p v : Byte) (s : State) : Res Unit :=
  if s.cgbMode = false then .ok () s
  else if p = 0x4D then .ok () { s with speedArmed := bitOf v 0 }
  else if p = 0x4F then .ok () { s with ppu.vbk := bitOf v 0 }
  else if p = 0x51 then .ok () { s with hdma.src := mkWord v (loByte s.hdma.src) }
  else if p = 0x52 then .ok () { s with hdma.src := mkWord (hiByte s.hdma.src) (v &&& 0xF0) }
  else if p = 0x53 then .ok () { s with hdma.dst := mkWord (0x80 ||| (v &&& 0x1F)) (loByte s.hdma.dst) }
  else if p = 0x54 then .ok () { s with hdma.dst := mkWord (hiByte s.hdma.dst) (v &&& 0xF0) }
  else if p = 0x55 then writeHdma5 v s
  else if p = 0x68 then .ok () { s with ppu.bcps := palIndexOf v }
  else if p = 0x69 then
    .ok () { s with ppu.bgPal := s.ppu.bgPal.set s.ppu.bcps.index.toNat v, ppu.bcps := palIndexNext s.ppu.bcps }
  else if p = 0x6A then .ok () { s with ppu.ocps := palIndexOf v }
  else if p = 0x6B then
    .ok () { s with ppu.objPal := s.ppu.objPal.set s.ppu.ocps.index.toNat v, ppu.ocps := palIndexNext s.ppu.ocps }
  else if p = 0x70 then .ok () { s with svbk := v.extractLsb' 0 3 }
  else .ok () s

/-- 20 R115, R130: `IoWrite(a, v)` for a = 0xFF00 + p, p below 0x80. -/
def writeIo (p v : Byte) (s : State) : Res Unit :=
  if p = 0x00 then .ok () { s with p1 := v.extractLsb' 4 2 }
  else if p = 0x04 then .ok () { s with timer := { s.timer with div := 0, divAcc := 0 } }
  else if p = 0x05 then .ok () { s with timer.tima := v }
  else if p = 0x06 then .ok () { s with timer.tma := v }
  else if p = 0x07 then .ok () { s with timer := writeTac v s.timer }
  else if p = 0x0F then .ok () { s with ifr := v.extractLsb' 0 5 }
  else if 0x10 ≤ p ∧ p ≤ 0x26 then .ok () { s with apu := s.apu.write p v }
  else if 0x30 ≤ p ∧ p ≤ 0x3F then .ok () { s with apu.wave := s.apu.wave.set (p.toNat - 0x30) v }
  else if p = 0x40 then .ok () { s with ppu.lcdc := v }
  else if p = 0x41 then .ok () { s with ppu.statSel := v.extractLsb' 3 4 }
  else if p = 0x42 then .ok () { s with ppu.scy := v }
  else if p = 0x43 then .ok () { s with ppu.scx := v }
  else if p = 0x45 then .ok () { s with ppu.lyc := v }
  else if p = 0x46 then oamDma v 0 160 s
  else if p = 0x47 then .ok () { s with ppu.bgp := v }
  else if p = 0x48 then .ok () { s with ppu.obp0 := v }
  else if p = 0x49 then .ok () { s with ppu.obp1 := v }
  else if p = 0x4A then .ok () { s with ppu.wy := v }
  else if p = 0x4B then .ok () { s with ppu.wx := v }
  else writeCgbIo p v s

/-- A write to the cartridge RAM window (20 R154). -/
def writeCart (n : Nat) (v : Byte) (s : State) : Res Unit :=
  match writeCartRam s.cart n v with
  | .ok c => .ok () { s with cart := c }
  | .error e => .stop e s

/-- 20 R105: `MemWrite(a, 1, v)`. -/
def busWrite (a : Word) (v : Byte) (s : State) : Res Unit :=
  let n := a.toNat
  if n < 0x8000 then .ok () { s with cart := cartControl s.cart n v }
  else if n < 0xA000 then .ok () { s with ppu.vram := s.ppu.vram.set (vramIndex s n) v }
  else if n < 0xC000 then writeCart n v s
  else if n < 0xE000 then .ok () { s with wram := s.wram.set (wramIndex s n) v }
  else if n < 0xFE00 then .ok () { s with wram := s.wram.set (wramIndex s (n - 0x2000)) v }
  else if n < 0xFEA0 then .ok () { s with ppu.oam := s.ppu.oam.set (n - 0xFE00) v }
  else if n < 0xFF00 then .ok () s
  else if n < 0xFF80 then writeIo (loByte a) v s
  else if n < 0xFFFF then .ok () { s with hram := s.hram.set (n - 0xFF80) v }
  else .ok () { s with ie := v }

end Sys2Proof.Machine
end

