-- ==== Sys2Proof/Machine/Ops.lean ====
section
/-! DEFINITION. The named operations the meanings share (00 R11): fetching, the stack, spending a cost, raising a
fault; taking an interrupt (60 R514, R515) and returning from one (44 R381). -/

namespace Sys2Proof.Machine

/-- 00 R11: `cost c` (log 8). -/
def spend (c : Nat) (s : State) : State := { s with cost := c }

/-- 00 R11: `raise Fault(r)` (60 R545). -/
def raise {α : Type} (r : Fault) (s : State) : Res α := .stop r s

/-- `pc <- t`. -/
def setPc (t : Word) (s : State) : State := { s with cpu.pc := t }

/-- `SP <- v`. -/
def setSp (v : Word) (s : State) : State := { s with cpu.sp := v }

/-- 60 R512: `request(i)` sets IF[i] and nothing else. -/
def request (i : Nat) (s : State) : State := { s with ifr := s.ifr ||| ((1 : BitVec 5) <<< i) }

/-- 00 R11: `Fetch8()`. -/
def fetch8 (s : State) : Res Byte :=
  (busRead s.cpu.pc s).bind fun b s => .ok b (setPc (s.cpu.pc + 1) s)

/-- 00 R11, 20 R102: `push16(v)`: the high byte first, at SP - 1, then the low byte at SP - 2. -/
def push16 (v : Word) (s : State) : Res Unit :=
  (busWrite (s.cpu.sp - 1) (hiByte v) (setSp (s.cpu.sp - 1) s)).bind fun _ s =>
    busWrite (s.cpu.sp - 1) (loByte v) (setSp (s.cpu.sp - 1) s)

/-- 00 R11, 20 R102: `pop16()`: the low byte first, at SP, then the high byte at SP + 1. -/
def pop16 (s : State) : Res Word :=
  (busRead s.cpu.sp s).bind fun lo s =>
    let s := setSp (s.cpu.sp + 1) s
    (busRead s.cpu.sp s).bind fun hi s => .ok (mkWord hi lo) (setSp (s.cpu.sp + 1) s)

/-- 44 R376: push the return address and go to `t` (CALL, RST). -/
def callTo (t : Word) (s : State) : Res Unit :=
  (push16 s.cpu.pc s).then fun _ s => setPc t s

/-- 44 R378: `pc <- pop16()` (RET). -/
def returnFromCall (s : State) : Res Unit :=
  (pop16 s).then fun t s => setPc t s

/-- 60 R510, R514: the vector of interrupt source i. -/
def vectorOf (i : Nat) : Word := BitVec.ofNat 16 (0x40 + 8 * i)

/-- 60 R514: what a dispatch of source i clears before it pushes: IME, `halted` and IF[i]. -/
def acceptInterrupt (i : Nat) (s : State) : State :=
  { s with cpu.ime := false, cpu.halted := false, ifr := s.ifr &&& ~~~((1 : BitVec 5) <<< i) }

/-- 60 R514, R515: TAKING AN INTERRUPT of source i: IME, `halted` and IF[i] are cleared, PC is pushed high byte
first, and PC becomes the vector. Nothing else is saved. -/
def takeInterrupt (i : Nat) (s : State) : Res Unit := callTo (vectorOf i) (acceptInterrupt i s)

/-- 44 R381, 60 R518: RETURNING FROM AN INTERRUPT (RETI): pop PC and set IME at once. -/
def returnFromInterrupt (s : State) : Res Unit :=
  (returnFromCall s).then fun _ s => { s with cpu.ime := true }

end Sys2Proof.Machine
end

