-- ==== Sys2Proof/Machine/Operands.lean ====
section
/-! DEFINITION. The operand forms (10 R21, R23, R24, 30 R172, R173, 44 R370): registers, pairs, the eight accessors,
the addresses of memory operands, the conditions. -/

namespace Sys2Proof.Machine

/-- 10 R20: read an 8-bit register. -/
def getReg (r : Reg8) (s : State) : Byte :=
  match r with
  | .b => s.cpu.b
  | .c => s.cpu.c
  | .d => s.cpu.d
  | .e => s.cpu.e
  | .h => s.cpu.h
  | .l => s.cpu.l
  | .a => s.cpu.a

/-- 10 R20: write an 8-bit register. -/
def setReg (r : Reg8) (v : Byte) (s : State) : State :=
  match r with
  | .b => { s with cpu.b := v }
  | .c => { s with cpu.c := v }
  | .d => { s with cpu.d := v }
  | .e => { s with cpu.e := v }
  | .h => { s with cpu.h := v }
  | .l => { s with cpu.l := v }
  | .a => { s with cpu.a := v }

/-- A <- v. -/
def setA (v : Byte) (s : State) : State := { s with cpu.a := v }

/-- 10 R22, R27: write the flags. -/
def setFlags (f : Flags) (s : State) : State := { s with cpu.f := f }

/-- 10 R21: BC = {B, C}. -/
def getBC (s : State) : Word := mkWord s.cpu.b s.cpu.c

/-- 10 R21: DE = {D, E}. -/
def getDE (s : State) : Word := mkWord s.cpu.d s.cpu.e

/-- 10 R21: HL = {H, L}. -/
def getHL (s : State) : Word := mkWord s.cpu.h s.cpu.l

/-- 10 R21: HL <- v. -/
def setHL (v : Word) (s : State) : State := { s with cpu.h := hiByte v, cpu.l := loByte v }

/-- 10 R24: read the pair of table rr. -/
def getRr (p : Rr) (s : State) : Word :=
  match p with
  | .bc => getBC s
  | .de => getDE s
  | .hl => getHL s
  | .sp => s.cpu.sp

/-- 10 R21, R24: write the pair of table rr. -/
def setRr (p : Rr) (v : Word) (s : State) : State :=
  match p with
  | .bc => { s with cpu.b := hiByte v, cpu.c := loByte v }
  | .de => { s with cpu.d := hiByte v, cpu.e := loByte v }
  | .hl => setHL v s
  | .sp => setSp v s

/-- 10 R21, R22, R24: read the pair of table qq; AF's low byte is F. -/
def getQq (p : Qq) (s : State) : Word :=
  match p with
  | .bc => getBC s
  | .de => getDE s
  | .hl => getHL s
  | .af => mkWord s.cpu.a s.cpu.f.toByte

/-- 10 R21, R22, R24: write the pair of table qq; the low nibble of F stays 0. -/
def setQq (p : Qq) (v : Word) (s : State) : State :=
  match p with
  | .bc => setRr .bc v s
  | .de => setRr .de v s
  | .hl => setHL v s
  | .af => { s with cpu.a := hiByte v, cpu.f := Flags.ofByte (loByte v) }

/-- 10 R23: `Get8(r)`; code 6 reads the byte at HL. -/
def get8 (r : R8) (s : State) : Res Byte :=
  match r.reg with
  | some q => .ok (getReg q s) s
  | none => busRead (getHL s) s

/-- 10 R23: `Set8(r, v)`; code 6 writes the byte at HL. -/
def set8 (r : R8) (v : Byte) (s : State) : Res Unit :=
  match r.reg with
  | some q => .ok () (setReg q v s)
  | none => busWrite (getHL s) v s

/-- 30 R172: the address `0xFF00 + a8`. -/
def highPage (n : Byte) : Word := 0xFF00 + n.zeroExtend 16

/-- 30 R173, 44 R370: `cond(cc)`, a function of F. -/
def condHolds (cc : Cond) (f : Flags) : Bool :=
  match cc with
  | .nz => !f.z
  | .z => f.z
  | .nc => !f.c
  | .c => f.c

end Sys2Proof.Machine
end

