-- ==== Sys2Proof/Machine/Alu16.lean ====
section
/-! DEFINITION. 16-bit arithmetic (42 R300 to R303). -/

namespace Sys2Proof.Machine

/-- 42 R300: INC rr, no flags. -/
def incPair (p : Rr) (s : State) : Host.Outcome State Fault Refusal := .next (spend 8 (setRr p (getRr p s + 1) s))

/-- 42 R301: DEC rr, no flags. -/
def decPair (p : Rr) (s : State) : Host.Outcome State Fault Refusal := .next (spend 8 (setRr p (getRr p s - 1) s))

/-- 42 R302: ADD HL,rr; the operand is read before HL is written. -/
def addHlPair (p : Rr) (s : State) : Host.Outcome State Fault Refusal :=
  .next (spend 8 (setFlags (add16 (getHL s) (getRr p s) s.cpu.f).2 (setHL (add16 (getHL s) (getRr p s) s.cpu.f).1 s)))

/-- INC BC (R300). -/
def execInc_bc (s : State) : Host.Outcome State Fault Refusal :=
  incPair .bc s

/-- DEC BC (R301). -/
def execDec_bc (s : State) : Host.Outcome State Fault Refusal :=
  decPair .bc s

/-- ADD HL,BC (R302). -/
def execAdd_hl_bc (s : State) : Host.Outcome State Fault Refusal :=
  addHlPair .bc s

/-- INC DE (R300). -/
def execInc_de (s : State) : Host.Outcome State Fault Refusal :=
  incPair .de s

/-- DEC DE (R301). -/
def execDec_de (s : State) : Host.Outcome State Fault Refusal :=
  decPair .de s

/-- ADD HL,DE (R302). -/
def execAdd_hl_de (s : State) : Host.Outcome State Fault Refusal :=
  addHlPair .de s

/-- INC HL (R300). -/
def execInc_hl (s : State) : Host.Outcome State Fault Refusal :=
  incPair .hl s

/-- DEC HL (R301). -/
def execDec_hl (s : State) : Host.Outcome State Fault Refusal :=
  decPair .hl s

/-- ADD HL,HL (R302). -/
def execAdd_hl_hl (s : State) : Host.Outcome State Fault Refusal :=
  addHlPair .hl s

/-- INC SP (R300). -/
def execInc_sp (s : State) : Host.Outcome State Fault Refusal :=
  incPair .sp s

/-- DEC SP (R301). -/
def execDec_sp (s : State) : Host.Outcome State Fault Refusal :=
  decPair .sp s

/-- ADD HL,SP (R302). -/
def execAdd_hl_sp (s : State) : Host.Outcome State Fault Refusal :=
  addHlPair .sp s

/-- ADD SP,e8 (R303). -/
def execAdd_sp_e8 (e : Byte) (s : State) : Host.Outcome State Fault Refusal :=
  .next (spend 16 (setFlags (addSp s.cpu.sp e).2 (setSp (addSp s.cpu.sp e).1 s)))

end Sys2Proof.Machine
end

