-- ==== Sys2Proof/Machine/Alu8.lean ====
section
/-! DEFINITION. 8-bit arithmetic and logic (41 R250 to R266). -/

namespace Sys2Proof.Machine

/-- 41 R251 to R258: the effect of an ALU operation with second operand v on A and the flags; CP writes no register. -/
def aluApply (op : AluOp) (v : Byte) (s : State) : State :=
  match op with
  | .add => setFlags (add8 s.cpu.a v false).2 (setA (add8 s.cpu.a v false).1 s)
  | .adc => setFlags (add8 s.cpu.a v s.cpu.f.c).2 (setA (add8 s.cpu.a v s.cpu.f.c).1 s)
  | .sub => setFlags (sub8 s.cpu.a v false).2 (setA (sub8 s.cpu.a v false).1 s)
  | .sbc => setFlags (sub8 s.cpu.a v s.cpu.f.c).2 (setA (sub8 s.cpu.a v s.cpu.f.c).1 s)
  | .and => setFlags (logicFlags (s.cpu.a &&& v) true) (setA (s.cpu.a &&& v) s)
  | .xor => setFlags (logicFlags (s.cpu.a ^^^ v) false) (setA (s.cpu.a ^^^ v) s)
  | .or => setFlags (logicFlags (s.cpu.a ||| v) false) (setA (s.cpu.a ||| v) s)
  | .cp => setFlags (sub8 s.cpu.a v false).2 s

/-- 41 R250: the register form. -/
def aluReg (op : AluOp) (r : Reg8) (s : State) : Host.Outcome State Fault Refusal :=
  .next (spend 4 (aluApply op (getReg r s) s))

/-- 41 R250: the (HL) form, one read. -/
def aluAtHL (op : AluOp) (s : State) : Host.Outcome State Fault Refusal :=
  ((busRead (getHL s) s).then fun v s => spend 8 (aluApply op v s)).outcome

/-- 41 R250: the immediate form. -/
def aluImm (op : AluOp) (n : Byte) (s : State) : Host.Outcome State Fault Refusal :=
  .next (spend 8 (aluApply op n s))

/-- 41 R259: INC r. -/
def incReg (r : Reg8) (s : State) : Host.Outcome State Fault Refusal :=
  .next (spend 4 (setReg r (inc8 (getReg r s) s.cpu.f).1 (setFlags (inc8 (getReg r s) s.cpu.f).2 s)))

/-- 41 R261: DEC r. -/
def decReg (r : Reg8) (s : State) : Host.Outcome State Fault Refusal :=
  .next (spend 4 (setReg r (dec8 (getReg r s) s.cpu.f).1 (setFlags (dec8 (getReg r s) s.cpu.f).2 s)))

/-- 41 R260, R262: INC (HL) and DEC (HL): one read, the flags, one write of the same address. -/
def modifyAtHL (f : Byte → Flags → Byte × Flags) (s : State) : Host.Outcome State Fault Refusal :=
  ((busRead (getHL s) s).bind fun v s =>
    (busWrite (getHL s) (f v s.cpu.f).1 (setFlags (f v s.cpu.f).2 s)).then fun _ s => spend 12 s).outcome

/-- ADD A,B (R251). -/
def execAdd_a_b (s : State) : Host.Outcome State Fault Refusal :=
  aluReg .add .b s

/-- ADD A,C (R251). -/
def execAdd_a_c (s : State) : Host.Outcome State Fault Refusal :=
  aluReg .add .c s

/-- ADD A,D (R251). -/
def execAdd_a_d (s : State) : Host.Outcome State Fault Refusal :=
  aluReg .add .d s

/-- ADD A,E (R251). -/
def execAdd_a_e (s : State) : Host.Outcome State Fault Refusal :=
  aluReg .add .e s

/-- ADD A,H (R251). -/
def execAdd_a_h (s : State) : Host.Outcome State Fault Refusal :=
  aluReg .add .h s

/-- ADD A,L (R251). -/
def execAdd_a_l (s : State) : Host.Outcome State Fault Refusal :=
  aluReg .add .l s

/-- ADD A,(HL) (R251). -/
def execAdd_a_atHL (s : State) : Host.Outcome State Fault Refusal :=
  aluAtHL .add s

/-- ADD A,A (R251). -/
def execAdd_a_a (s : State) : Host.Outcome State Fault Refusal :=
  aluReg .add .a s

/-- ADD A,n8 (R251). -/
def execAdd_a_n8 (n : Byte) (s : State) : Host.Outcome State Fault Refusal :=
  aluImm .add n s

/-- ADC A,B (R252). -/
def execAdc_a_b (s : State) : Host.Outcome State Fault Refusal :=
  aluReg .adc .b s

/-- ADC A,C (R252). -/
def execAdc_a_c (s : State) : Host.Outcome State Fault Refusal :=
  aluReg .adc .c s

/-- ADC A,D (R252). -/
def execAdc_a_d (s : State) : Host.Outcome State Fault Refusal :=
  aluReg .adc .d s

/-- ADC A,E (R252). -/
def execAdc_a_e (s : State) : Host.Outcome State Fault Refusal :=
  aluReg .adc .e s

/-- ADC A,H (R252). -/
def execAdc_a_h (s : State) : Host.Outcome State Fault Refusal :=
  aluReg .adc .h s

/-- ADC A,L (R252). -/
def execAdc_a_l (s : State) : Host.Outcome State Fault Refusal :=
  aluReg .adc .l s

/-- ADC A,(HL) (R252). -/
def execAdc_a_atHL (s : State) : Host.Outcome State Fault Refusal :=
  aluAtHL .adc s

/-- ADC A,A (R252). -/
def execAdc_a_a (s : State) : Host.Outcome State Fault Refusal :=
  aluReg .adc .a s

/-- ADC A,n8 (R252). -/
def execAdc_a_n8 (n : Byte) (s : State) : Host.Outcome State Fault Refusal :=
  aluImm .adc n s

/-- SUB B (R253). -/
def execSub_b (s : State) : Host.Outcome State Fault Refusal :=
  aluReg .sub .b s

/-- SUB C (R253). -/
def execSub_c (s : State) : Host.Outcome State Fault Refusal :=
  aluReg .sub .c s

/-- SUB D (R253). -/
def execSub_d (s : State) : Host.Outcome State Fault Refusal :=
  aluReg .sub .d s

/-- SUB E (R253). -/
def execSub_e (s : State) : Host.Outcome State Fault Refusal :=
  aluReg .sub .e s

/-- SUB H (R253). -/
def execSub_h (s : State) : Host.Outcome State Fault Refusal :=
  aluReg .sub .h s

/-- SUB L (R253). -/
def execSub_l (s : State) : Host.Outcome State Fault Refusal :=
  aluReg .sub .l s

/-- SUB (HL) (R253). -/
def execSub_atHL (s : State) : Host.Outcome State Fault Refusal :=
  aluAtHL .sub s

/-- SUB A (R253). -/
def execSub_a (s : State) : Host.Outcome State Fault Refusal :=
  aluReg .sub .a s

/-- SUB n8 (R253). -/
def execSub_n8 (n : Byte) (s : State) : Host.Outcome State Fault Refusal :=
  aluImm .sub n s

/-- SBC A,B (R254). -/
def execSbc_a_b (s : State) : Host.Outcome State Fault Refusal :=
  aluReg .sbc .b s

/-- SBC A,C (R254). -/
def execSbc_a_c (s : State) : Host.Outcome State Fault Refusal :=
  aluReg .sbc .c s

/-- SBC A,D (R254). -/
def execSbc_a_d (s : State) : Host.Outcome State Fault Refusal :=
  aluReg .sbc .d s

/-- SBC A,E (R254). -/
def execSbc_a_e (s : State) : Host.Outcome State Fault Refusal :=
  aluReg .sbc .e s

/-- SBC A,H (R254). -/
def execSbc_a_h (s : State) : Host.Outcome State Fault Refusal :=
  aluReg .sbc .h s

/-- SBC A,L (R254). -/
def execSbc_a_l (s : State) : Host.Outcome State Fault Refusal :=
  aluReg .sbc .l s

/-- SBC A,(HL) (R254). -/
def execSbc_a_atHL (s : State) : Host.Outcome State Fault Refusal :=
  aluAtHL .sbc s

/-- SBC A,A (R254). -/
def execSbc_a_a (s : State) : Host.Outcome State Fault Refusal :=
  aluReg .sbc .a s

/-- SBC A,n8 (R254). -/
def execSbc_a_n8 (n : Byte) (s : State) : Host.Outcome State Fault Refusal :=
  aluImm .sbc n s

/-- AND B (R255). -/
def execAnd_b (s : State) : Host.Outcome State Fault Refusal :=
  aluReg .and .b s

/-- AND C (R255). -/
def execAnd_c (s : State) : Host.Outcome State Fault Refusal :=
  aluReg .and .c s

/-- AND D (R255). -/
def execAnd_d (s : State) : Host.Outcome State Fault Refusal :=
  aluReg .and .d s

/-- AND E (R255). -/
def execAnd_e (s : State) : Host.Outcome State Fault Refusal :=
  aluReg .and .e s

/-- AND H (R255). -/
def execAnd_h (s : State) : Host.Outcome State Fault Refusal :=
  aluReg .and .h s

/-- AND L (R255). -/
def execAnd_l (s : State) : Host.Outcome State Fault Refusal :=
  aluReg .and .l s

/-- AND (HL) (R255). -/
def execAnd_atHL (s : State) : Host.Outcome State Fault Refusal :=
  aluAtHL .and s

/-- AND A (R255). -/
def execAnd_a (s : State) : Host.Outcome State Fault Refusal :=
  aluReg .and .a s

/-- AND n8 (R255). -/
def execAnd_n8 (n : Byte) (s : State) : Host.Outcome State Fault Refusal :=
  aluImm .and n s

/-- XOR B (R256). -/
def execXor_b (s : State) : Host.Outcome State Fault Refusal :=
  aluReg .xor .b s

/-- XOR C (R256). -/
def execXor_c (s : State) : Host.Outcome State Fault Refusal :=
  aluReg .xor .c s

/-- XOR D (R256). -/
def execXor_d (s : State) : Host.Outcome State Fault Refusal :=
  aluReg .xor .d s

/-- XOR E (R256). -/
def execXor_e (s : State) : Host.Outcome State Fault Refusal :=
  aluReg .xor .e s

/-- XOR H (R256). -/
def execXor_h (s : State) : Host.Outcome State Fault Refusal :=
  aluReg .xor .h s

/-- XOR L (R256). -/
def execXor_l (s : State) : Host.Outcome State Fault Refusal :=
  aluReg .xor .l s

/-- XOR (HL) (R256). -/
def execXor_atHL (s : State) : Host.Outcome State Fault Refusal :=
  aluAtHL .xor s

/-- XOR A (R256). -/
def execXor_a (s : State) : Host.Outcome State Fault Refusal :=
  aluReg .xor .a s

/-- XOR n8 (R256). -/
def execXor_n8 (n : Byte) (s : State) : Host.Outcome State Fault Refusal :=
  aluImm .xor n s

/-- OR B (R257). -/
def execOr_b (s : State) : Host.Outcome State Fault Refusal :=
  aluReg .or .b s

/-- OR C (R257). -/
def execOr_c (s : State) : Host.Outcome State Fault Refusal :=
  aluReg .or .c s

/-- OR D (R257). -/
def execOr_d (s : State) : Host.Outcome State Fault Refusal :=
  aluReg .or .d s

/-- OR E (R257). -/
def execOr_e (s : State) : Host.Outcome State Fault Refusal :=
  aluReg .or .e s

/-- OR H (R257). -/
def execOr_h (s : State) : Host.Outcome State Fault Refusal :=
  aluReg .or .h s

/-- OR L (R257). -/
def execOr_l (s : State) : Host.Outcome State Fault Refusal :=
  aluReg .or .l s

/-- OR (HL) (R257). -/
def execOr_atHL (s : State) : Host.Outcome State Fault Refusal :=
  aluAtHL .or s

/-- OR A (R257). -/
def execOr_a (s : State) : Host.Outcome State Fault Refusal :=
  aluReg .or .a s

/-- OR n8 (R257). -/
def execOr_n8 (n : Byte) (s : State) : Host.Outcome State Fault Refusal :=
  aluImm .or n s

/-- CP B (R258). -/
def execCp_b (s : State) : Host.Outcome State Fault Refusal :=
  aluReg .cp .b s

/-- CP C (R258). -/
def execCp_c (s : State) : Host.Outcome State Fault Refusal :=
  aluReg .cp .c s

/-- CP D (R258). -/
def execCp_d (s : State) : Host.Outcome State Fault Refusal :=
  aluReg .cp .d s

/-- CP E (R258). -/
def execCp_e (s : State) : Host.Outcome State Fault Refusal :=
  aluReg .cp .e s

/-- CP H (R258). -/
def execCp_h (s : State) : Host.Outcome State Fault Refusal :=
  aluReg .cp .h s

/-- CP L (R258). -/
def execCp_l (s : State) : Host.Outcome State Fault Refusal :=
  aluReg .cp .l s

/-- CP (HL) (R258). -/
def execCp_atHL (s : State) : Host.Outcome State Fault Refusal :=
  aluAtHL .cp s

/-- CP A (R258). -/
def execCp_a (s : State) : Host.Outcome State Fault Refusal :=
  aluReg .cp .a s

/-- CP n8 (R258). -/
def execCp_n8 (n : Byte) (s : State) : Host.Outcome State Fault Refusal :=
  aluImm .cp n s

/-- INC B (R259). -/
def execInc_b (s : State) : Host.Outcome State Fault Refusal :=
  incReg .b s

/-- DEC B (R261). -/
def execDec_b (s : State) : Host.Outcome State Fault Refusal :=
  decReg .b s

/-- INC C (R259). -/
def execInc_c (s : State) : Host.Outcome State Fault Refusal :=
  incReg .c s

/-- DEC C (R261). -/
def execDec_c (s : State) : Host.Outcome State Fault Refusal :=
  decReg .c s

/-- INC D (R259). -/
def execInc_d (s : State) : Host.Outcome State Fault Refusal :=
  incReg .d s

/-- DEC D (R261). -/
def execDec_d (s : State) : Host.Outcome State Fault Refusal :=
  decReg .d s

/-- INC E (R259). -/
def execInc_e (s : State) : Host.Outcome State Fault Refusal :=
  incReg .e s

/-- DEC E (R261). -/
def execDec_e (s : State) : Host.Outcome State Fault Refusal :=
  decReg .e s

/-- INC H (R259). -/
def execInc_h (s : State) : Host.Outcome State Fault Refusal :=
  incReg .h s

/-- DEC H (R261). -/
def execDec_h (s : State) : Host.Outcome State Fault Refusal :=
  decReg .h s

/-- INC L (R259). -/
def execInc_l (s : State) : Host.Outcome State Fault Refusal :=
  incReg .l s

/-- DEC L (R261). -/
def execDec_l (s : State) : Host.Outcome State Fault Refusal :=
  decReg .l s

/-- INC (HL) (R260). -/
def execInc_atHL (s : State) : Host.Outcome State Fault Refusal :=
  modifyAtHL inc8 s

/-- DEC (HL) (R262). -/
def execDec_atHL (s : State) : Host.Outcome State Fault Refusal :=
  modifyAtHL dec8 s

/-- INC A (R259). -/
def execInc_a (s : State) : Host.Outcome State Fault Refusal :=
  incReg .a s

/-- DEC A (R261). -/
def execDec_a (s : State) : Host.Outcome State Fault Refusal :=
  decReg .a s

/-- DAA (R263). -/
def execDaa (s : State) : Host.Outcome State Fault Refusal :=
  .next (spend 4 (setFlags (daa s.cpu.a s.cpu.f).2 (setA (daa s.cpu.a s.cpu.f).1 s)))

/-- CPL (R264). -/
def execCpl (s : State) : Host.Outcome State Fault Refusal :=
  .next (spend 4 (setFlags { s.cpu.f with n := true, h := true } (setA (s.cpu.a ^^^ 0xFF) s)))

/-- SCF (R265). -/
def execScf (s : State) : Host.Outcome State Fault Refusal :=
  .next (spend 4 (setFlags { s.cpu.f with n := false, h := false, c := true } s))

/-- CCF (R266). -/
def execCcf (s : State) : Host.Outcome State Fault Refusal :=
  .next (spend 4 (setFlags { s.cpu.f with n := false, h := false, c := !s.cpu.f.c } s))

end Sys2Proof.Machine
end

