-- ==== Sys2Proof/Machine/Control.lean ====
section
/-! DEFINITION. Jumps, calls, returns and restarts (44 R370 to R382). PC is past the whole instruction when a meaning
starts (00 R11: `pcNext`). -/

namespace Sys2Proof.Machine

/-- 44 R372: JP cc,a16. -/
def jumpIf (cc : Cond) (t : Word) (s : State) : Host.Outcome State Fault Refusal :=
  .next (if condHolds cc s.cpu.f then spend 16 (setPc t s) else spend 12 s)

/-- 44 R374: JR e8; the displacement is from the address after the instruction. -/
def jumpRel (e : Byte) (s : State) : State := setPc (s.cpu.pc + sext16 e) s

/-- 44 R375: JR cc,e8. -/
def jumpRelIf (cc : Cond) (e : Byte) (s : State) : Host.Outcome State Fault Refusal :=
  .next (if condHolds cc s.cpu.f then spend 12 (jumpRel e s) else spend 8 s)

/-- 44 R376, R380: CALL a16 and RST. -/
def callAlways (t : Word) (cost : Nat) (s : State) : Host.Outcome State Fault Refusal :=
  ((callTo t s).then fun _ s => spend cost s).outcome

/-- 44 R377: CALL cc,a16; nothing is pushed when not taken. -/
def callIf (cc : Cond) (t : Word) (s : State) : Host.Outcome State Fault Refusal :=
  if condHolds cc s.cpu.f then callAlways t 24 s else .next (spend 12 s)

/-- 44 R379: RET cc; nothing is read when not taken. -/
def returnIf (cc : Cond) (s : State) : Host.Outcome State Fault Refusal :=
  if condHolds cc s.cpu.f then ((returnFromCall s).then fun _ s => spend 20 s).outcome else .next (spend 8 s)

/-- 44 R380: the target of RST, `zext_16(y * 8)`. -/
def rstTarget (y : Nat) : Word := BitVec.ofNat 16 (y * 8)

/-- JP NZ,a16 (R372). -/
def execJp_nz_a16 (a : Word) (s : State) : Host.Outcome State Fault Refusal :=
  jumpIf .nz a s

/-- JR NZ,e8 (R375). -/
def execJr_nz_e8 (e : Byte) (s : State) : Host.Outcome State Fault Refusal :=
  jumpRelIf .nz e s

/-- CALL NZ,a16 (R377). -/
def execCall_nz_a16 (a : Word) (s : State) : Host.Outcome State Fault Refusal :=
  callIf .nz a s

/-- RET NZ (R379). -/
def execRet_nz (s : State) : Host.Outcome State Fault Refusal :=
  returnIf .nz s

/-- JP Z,a16 (R372). -/
def execJp_z_a16 (a : Word) (s : State) : Host.Outcome State Fault Refusal :=
  jumpIf .z a s

/-- JR Z,e8 (R375). -/
def execJr_z_e8 (e : Byte) (s : State) : Host.Outcome State Fault Refusal :=
  jumpRelIf .z e s

/-- CALL Z,a16 (R377). -/
def execCall_z_a16 (a : Word) (s : State) : Host.Outcome State Fault Refusal :=
  callIf .z a s

/-- RET Z (R379). -/
def execRet_z (s : State) : Host.Outcome State Fault Refusal :=
  returnIf .z s

/-- JP NC,a16 (R372). -/
def execJp_nc_a16 (a : Word) (s : State) : Host.Outcome State Fault Refusal :=
  jumpIf .nc a s

/-- JR NC,e8 (R375). -/
def execJr_nc_e8 (e : Byte) (s : State) : Host.Outcome State Fault Refusal :=
  jumpRelIf .nc e s

/-- CALL NC,a16 (R377). -/
def execCall_nc_a16 (a : Word) (s : State) : Host.Outcome State Fault Refusal :=
  callIf .nc a s

/-- RET NC (R379). -/
def execRet_nc (s : State) : Host.Outcome State Fault Refusal :=
  returnIf .nc s

/-- JP C,a16 (R372). -/
def execJp_c_a16 (a : Word) (s : State) : Host.Outcome State Fault Refusal :=
  jumpIf .c a s

/-- JR C,e8 (R375). -/
def execJr_c_e8 (e : Byte) (s : State) : Host.Outcome State Fault Refusal :=
  jumpRelIf .c e s

/-- CALL C,a16 (R377). -/
def execCall_c_a16 (a : Word) (s : State) : Host.Outcome State Fault Refusal :=
  callIf .c a s

/-- RET C (R379). -/
def execRet_c (s : State) : Host.Outcome State Fault Refusal :=
  returnIf .c s

/-- JP a16 (R371). -/
def execJp_a16 (a : Word) (s : State) : Host.Outcome State Fault Refusal :=
  .next (spend 16 (setPc a s))

/-- JP HL (R373). -/
def execJp_hl (s : State) : Host.Outcome State Fault Refusal :=
  .next (spend 4 (setPc (getHL s) s))

/-- JR e8 (R374). -/
def execJr_e8 (e : Byte) (s : State) : Host.Outcome State Fault Refusal :=
  .next (spend 12 (jumpRel e s))

/-- CALL a16 (R376). -/
def execCall_a16 (a : Word) (s : State) : Host.Outcome State Fault Refusal :=
  callAlways a 24 s

/-- RET (R378). -/
def execRet (s : State) : Host.Outcome State Fault Refusal :=
  ((returnFromCall s).then fun _ s => spend 16 s).outcome

/-- RETI (R381). -/
def execReti (s : State) : Host.Outcome State Fault Refusal :=
  ((returnFromInterrupt s).then fun _ s => spend 16 s).outcome

/-- RST 0x00 (R380). -/
def execRst_00 (s : State) : Host.Outcome State Fault Refusal :=
  callAlways (rstTarget 0) 16 s

/-- RST 0x08 (R380). -/
def execRst_08 (s : State) : Host.Outcome State Fault Refusal :=
  callAlways (rstTarget 1) 16 s

/-- RST 0x10 (R380). -/
def execRst_10 (s : State) : Host.Outcome State Fault Refusal :=
  callAlways (rstTarget 2) 16 s

/-- RST 0x18 (R380). -/
def execRst_18 (s : State) : Host.Outcome State Fault Refusal :=
  callAlways (rstTarget 3) 16 s

/-- RST 0x20 (R380). -/
def execRst_20 (s : State) : Host.Outcome State Fault Refusal :=
  callAlways (rstTarget 4) 16 s

/-- RST 0x28 (R380). -/
def execRst_28 (s : State) : Host.Outcome State Fault Refusal :=
  callAlways (rstTarget 5) 16 s

/-- RST 0x30 (R380). -/
def execRst_30 (s : State) : Host.Outcome State Fault Refusal :=
  callAlways (rstTarget 6) 16 s

/-- RST 0x38 (R380). -/
def execRst_38 (s : State) : Host.Outcome State Fault Refusal :=
  callAlways (rstTarget 7) 16 s

end Sys2Proof.Machine
end

