-- ==== Sys2Proof/Machine/Loads.lean ====
section
/-! DEFINITION. Loads, stores and the stack (40 R200 to R225). -/

namespace Sys2Proof.Machine

/-- 40 R200: LD r,r'. -/
def ldRegReg (dst r : Reg8) (s : State) : Host.Outcome State Fault Refusal :=
  .next (spend 4 (setReg dst (getReg r s) s))

/-- 40 R201: LD r,n8. -/
def ldRegImm (dst : Reg8) (n : Byte) (s : State) : Host.Outcome State Fault Refusal :=
  .next (spend 8 (setReg dst n s))

/-- 40 R202, R205, R206, R209, R211, R213: load a register from the byte at an address. -/
def ldRegAt (dst : Reg8) (a : Word) (cost : Nat) (s : State) : Host.Outcome State Fault Refusal :=
  ((busRead a s).then fun v s => spend cost (setReg dst v s)).outcome

/-- 40 R203, R204, R207, R208, R210, R212, R214: store a byte at an address. -/
def storeAt (a : Word) (v : Byte) (cost : Nat) (s : State) : Host.Outcome State Fault Refusal :=
  ((busWrite a v s).then fun _ s => spend cost s).outcome

/-- 40 R215, R216: LD (HL+),A and LD (HL-),A: the store, then HL moves by `step`. -/
def storeAStep (step : Word) (s : State) : Host.Outcome State Fault Refusal :=
  ((busWrite (getHL s) s.cpu.a s).then fun _ s => spend 8 (setHL (getHL s + step) s)).outcome

/-- 40 R217, R218: LD A,(HL+) and LD A,(HL-): the load, then HL moves by `step`. -/
def loadAStep (step : Word) (s : State) : Host.Outcome State Fault Refusal :=
  ((busRead (getHL s) s).then fun v s => spend 8 (setHL (getHL s + step) (setA v s))).outcome

/-- 40 R219: LD rr,n16. -/
def ldRrImm (p : Rr) (n : Word) (s : State) : Host.Outcome State Fault Refusal :=
  .next (spend 12 (setRr p n s))

/-- 40 R220: LD (a16),SP: the low byte first, at the lower address. -/
def storeSp (a : Word) (s : State) : Host.Outcome State Fault Refusal :=
  (((busWrite a (loByte s.cpu.sp) s).bind fun _ s => busWrite (a + 1) (hiByte s.cpu.sp) s).then fun _ s =>
    spend 20 s).outcome

/-- 40 R223: PUSH qq. -/
def pushPair (p : Qq) (s : State) : Host.Outcome State Fault Refusal :=
  ((push16 (getQq p s) s).then fun _ s => spend 16 s).outcome

/-- 40 R224: POP qq; POP AF keeps F[3:0] at 0. -/
def popPair (p : Qq) (s : State) : Host.Outcome State Fault Refusal :=
  ((pop16 s).then fun v s => spend 12 (setQq p v s)).outcome

/-- LD B,B (R200). -/
def execLd_b_b (s : State) : Host.Outcome State Fault Refusal :=
  ldRegReg .b .b s

/-- LD B,C (R200). -/
def execLd_b_c (s : State) : Host.Outcome State Fault Refusal :=
  ldRegReg .b .c s

/-- LD B,D (R200). -/
def execLd_b_d (s : State) : Host.Outcome State Fault Refusal :=
  ldRegReg .b .d s

/-- LD B,E (R200). -/
def execLd_b_e (s : State) : Host.Outcome State Fault Refusal :=
  ldRegReg .b .e s

/-- LD B,H (R200). -/
def execLd_b_h (s : State) : Host.Outcome State Fault Refusal :=
  ldRegReg .b .h s

/-- LD B,L (R200). -/
def execLd_b_l (s : State) : Host.Outcome State Fault Refusal :=
  ldRegReg .b .l s

/-- LD B,(HL) (R202). -/
def execLd_b_atHL (s : State) : Host.Outcome State Fault Refusal :=
  ldRegAt .b (getHL s) 8 s

/-- LD B,A (R200). -/
def execLd_b_a (s : State) : Host.Outcome State Fault Refusal :=
  ldRegReg .b .a s

/-- LD B,n8 (R201). -/
def execLd_b_n8 (n : Byte) (s : State) : Host.Outcome State Fault Refusal :=
  ldRegImm .b n s

/-- LD C,B (R200). -/
def execLd_c_b (s : State) : Host.Outcome State Fault Refusal :=
  ldRegReg .c .b s

/-- LD C,C (R200). -/
def execLd_c_c (s : State) : Host.Outcome State Fault Refusal :=
  ldRegReg .c .c s

/-- LD C,D (R200). -/
def execLd_c_d (s : State) : Host.Outcome State Fault Refusal :=
  ldRegReg .c .d s

/-- LD C,E (R200). -/
def execLd_c_e (s : State) : Host.Outcome State Fault Refusal :=
  ldRegReg .c .e s

/-- LD C,H (R200). -/
def execLd_c_h (s : State) : Host.Outcome State Fault Refusal :=
  ldRegReg .c .h s

/-- LD C,L (R200). -/
def execLd_c_l (s : State) : Host.Outcome State Fault Refusal :=
  ldRegReg .c .l s

/-- LD C,(HL) (R202). -/
def execLd_c_atHL (s : State) : Host.Outcome State Fault Refusal :=
  ldRegAt .c (getHL s) 8 s

/-- LD C,A (R200). -/
def execLd_c_a (s : State) : Host.Outcome State Fault Refusal :=
  ldRegReg .c .a s

/-- LD C,n8 (R201). -/
def execLd_c_n8 (n : Byte) (s : State) : Host.Outcome State Fault Refusal :=
  ldRegImm .c n s

/-- LD D,B (R200). -/
def execLd_d_b (s : State) : Host.Outcome State Fault Refusal :=
  ldRegReg .d .b s

/-- LD D,C (R200). -/
def execLd_d_c (s : State) : Host.Outcome State Fault Refusal :=
  ldRegReg .d .c s

/-- LD D,D (R200). -/
def execLd_d_d (s : State) : Host.Outcome State Fault Refusal :=
  ldRegReg .d .d s

/-- LD D,E (R200). -/
def execLd_d_e (s : State) : Host.Outcome State Fault Refusal :=
  ldRegReg .d .e s

/-- LD D,H (R200). -/
def execLd_d_h (s : State) : Host.Outcome State Fault Refusal :=
  ldRegReg .d .h s

/-- LD D,L (R200). -/
def execLd_d_l (s : State) : Host.Outcome State Fault Refusal :=
  ldRegReg .d .l s

/-- LD D,(HL) (R202). -/
def execLd_d_atHL (s : State) : Host.Outcome State Fault Refusal :=
  ldRegAt .d (getHL s) 8 s

/-- LD D,A (R200). -/
def execLd_d_a (s : State) : Host.Outcome State Fault Refusal :=
  ldRegReg .d .a s

/-- LD D,n8 (R201). -/
def execLd_d_n8 (n : Byte) (s : State) : Host.Outcome State Fault Refusal :=
  ldRegImm .d n s

/-- LD E,B (R200). -/
def execLd_e_b (s : State) : Host.Outcome State Fault Refusal :=
  ldRegReg .e .b s

/-- LD E,C (R200). -/
def execLd_e_c (s : State) : Host.Outcome State Fault Refusal :=
  ldRegReg .e .c s

/-- LD E,D (R200). -/
def execLd_e_d (s : State) : Host.Outcome State Fault Refusal :=
  ldRegReg .e .d s

/-- LD E,E (R200). -/
def execLd_e_e (s : State) : Host.Outcome State Fault Refusal :=
  ldRegReg .e .e s

/-- LD E,H (R200). -/
def execLd_e_h (s : State) : Host.Outcome State Fault Refusal :=
  ldRegReg .e .h s

/-- LD E,L (R200). -/
def execLd_e_l (s : State) : Host.Outcome State Fault Refusal :=
  ldRegReg .e .l s

/-- LD E,(HL) (R202). -/
def execLd_e_atHL (s : State) : Host.Outcome State Fault Refusal :=
  ldRegAt .e (getHL s) 8 s

/-- LD E,A (R200). -/
def execLd_e_a (s : State) : Host.Outcome State Fault Refusal :=
  ldRegReg .e .a s

/-- LD E,n8 (R201). -/
def execLd_e_n8 (n : Byte) (s : State) : Host.Outcome State Fault Refusal :=
  ldRegImm .e n s

/-- LD H,B (R200). -/
def execLd_h_b (s : State) : Host.Outcome State Fault Refusal :=
  ldRegReg .h .b s

/-- LD H,C (R200). -/
def execLd_h_c (s : State) : Host.Outcome State Fault Refusal :=
  ldRegReg .h .c s

/-- LD H,D (R200). -/
def execLd_h_d (s : State) : Host.Outcome State Fault Refusal :=
  ldRegReg .h .d s

/-- LD H,E (R200). -/
def execLd_h_e (s : State) : Host.Outcome State Fault Refusal :=
  ldRegReg .h .e s

/-- LD H,H (R200). -/
def execLd_h_h (s : State) : Host.Outcome State Fault Refusal :=
  ldRegReg .h .h s

/-- LD H,L (R200). -/
def execLd_h_l (s : State) : Host.Outcome State Fault Refusal :=
  ldRegReg .h .l s

/-- LD H,(HL) (R202). -/
def execLd_h_atHL (s : State) : Host.Outcome State Fault Refusal :=
  ldRegAt .h (getHL s) 8 s

/-- LD H,A (R200). -/
def execLd_h_a (s : State) : Host.Outcome State Fault Refusal :=
  ldRegReg .h .a s

/-- LD H,n8 (R201). -/
def execLd_h_n8 (n : Byte) (s : State) : Host.Outcome State Fault Refusal :=
  ldRegImm .h n s

/-- LD L,B (R200). -/
def execLd_l_b (s : State) : Host.Outcome State Fault Refusal :=
  ldRegReg .l .b s

/-- LD L,C (R200). -/
def execLd_l_c (s : State) : Host.Outcome State Fault Refusal :=
  ldRegReg .l .c s

/-- LD L,D (R200). -/
def execLd_l_d (s : State) : Host.Outcome State Fault Refusal :=
  ldRegReg .l .d s

/-- LD L,E (R200). -/
def execLd_l_e (s : State) : Host.Outcome State Fault Refusal :=
  ldRegReg .l .e s

/-- LD L,H (R200). -/
def execLd_l_h (s : State) : Host.Outcome State Fault Refusal :=
  ldRegReg .l .h s

/-- LD L,L (R200). -/
def execLd_l_l (s : State) : Host.Outcome State Fault Refusal :=
  ldRegReg .l .l s

/-- LD L,(HL) (R202). -/
def execLd_l_atHL (s : State) : Host.Outcome State Fault Refusal :=
  ldRegAt .l (getHL s) 8 s

/-- LD L,A (R200). -/
def execLd_l_a (s : State) : Host.Outcome State Fault Refusal :=
  ldRegReg .l .a s

/-- LD L,n8 (R201). -/
def execLd_l_n8 (n : Byte) (s : State) : Host.Outcome State Fault Refusal :=
  ldRegImm .l n s

/-- LD (HL),B (R203). -/
def execLd_atHL_b (s : State) : Host.Outcome State Fault Refusal :=
  storeAt (getHL s) (getReg .b s) 8 s

/-- LD (HL),C (R203). -/
def execLd_atHL_c (s : State) : Host.Outcome State Fault Refusal :=
  storeAt (getHL s) (getReg .c s) 8 s

/-- LD (HL),D (R203). -/
def execLd_atHL_d (s : State) : Host.Outcome State Fault Refusal :=
  storeAt (getHL s) (getReg .d s) 8 s

/-- LD (HL),E (R203). -/
def execLd_atHL_e (s : State) : Host.Outcome State Fault Refusal :=
  storeAt (getHL s) (getReg .e s) 8 s

/-- LD (HL),H (R203). -/
def execLd_atHL_h (s : State) : Host.Outcome State Fault Refusal :=
  storeAt (getHL s) (getReg .h s) 8 s

/-- LD (HL),L (R203). -/
def execLd_atHL_l (s : State) : Host.Outcome State Fault Refusal :=
  storeAt (getHL s) (getReg .l s) 8 s

/-- LD (HL),A (R203). -/
def execLd_atHL_a (s : State) : Host.Outcome State Fault Refusal :=
  storeAt (getHL s) (getReg .a s) 8 s

/-- LD (HL),n8 (R204). -/
def execLd_atHL_n8 (n : Byte) (s : State) : Host.Outcome State Fault Refusal :=
  storeAt (getHL s) n 12 s

/-- LD A,B (R200). -/
def execLd_a_b (s : State) : Host.Outcome State Fault Refusal :=
  ldRegReg .a .b s

/-- LD A,C (R200). -/
def execLd_a_c (s : State) : Host.Outcome State Fault Refusal :=
  ldRegReg .a .c s

/-- LD A,D (R200). -/
def execLd_a_d (s : State) : Host.Outcome State Fault Refusal :=
  ldRegReg .a .d s

/-- LD A,E (R200). -/
def execLd_a_e (s : State) : Host.Outcome State Fault Refusal :=
  ldRegReg .a .e s

/-- LD A,H (R200). -/
def execLd_a_h (s : State) : Host.Outcome State Fault Refusal :=
  ldRegReg .a .h s

/-- LD A,L (R200). -/
def execLd_a_l (s : State) : Host.Outcome State Fault Refusal :=
  ldRegReg .a .l s

/-- LD A,(HL) (R202). -/
def execLd_a_atHL (s : State) : Host.Outcome State Fault Refusal :=
  ldRegAt .a (getHL s) 8 s

/-- LD A,A (R200). -/
def execLd_a_a (s : State) : Host.Outcome State Fault Refusal :=
  ldRegReg .a .a s

/-- LD A,n8 (R201). -/
def execLd_a_n8 (n : Byte) (s : State) : Host.Outcome State Fault Refusal :=
  ldRegImm .a n s

/-- LD A,(BC) (R205). -/
def execLd_a_atBC (s : State) : Host.Outcome State Fault Refusal :=
  ldRegAt .a (getBC s) 8 s

/-- LD A,(DE) (R206). -/
def execLd_a_atDE (s : State) : Host.Outcome State Fault Refusal :=
  ldRegAt .a (getDE s) 8 s

/-- LD (BC),A (R207). -/
def execLd_atBC_a (s : State) : Host.Outcome State Fault Refusal :=
  storeAt (getBC s) s.cpu.a 8 s

/-- LD (DE),A (R208). -/
def execLd_atDE_a (s : State) : Host.Outcome State Fault Refusal :=
  storeAt (getDE s) s.cpu.a 8 s

/-- LD A,(a16) (R209). -/
def execLd_a_atA16 (a : Word) (s : State) : Host.Outcome State Fault Refusal :=
  ldRegAt .a a 16 s

/-- LD (a16),A (R210). -/
def execLd_atA16_a (a : Word) (s : State) : Host.Outcome State Fault Refusal :=
  storeAt a s.cpu.a 16 s

/-- LDH A,(a8) (R211). -/
def execLdh_a_atA8 (n : Byte) (s : State) : Host.Outcome State Fault Refusal :=
  ldRegAt .a (highPage n) 12 s

/-- LDH (a8),A (R212). -/
def execLdh_atA8_a (n : Byte) (s : State) : Host.Outcome State Fault Refusal :=
  storeAt (highPage n) s.cpu.a 12 s

/-- LD A,(C) (R213). -/
def execLd_a_atC (s : State) : Host.Outcome State Fault Refusal :=
  ldRegAt .a (highPage s.cpu.c) 8 s

/-- LD (C),A (R214). -/
def execLd_atC_a (s : State) : Host.Outcome State Fault Refusal :=
  storeAt (highPage s.cpu.c) s.cpu.a 8 s

/-- LD (HL+),A (R215). -/
def execLd_atHLI_a (s : State) : Host.Outcome State Fault Refusal :=
  storeAStep 1 s

/-- LD (HL-),A (R216). -/
def execLd_atHLD_a (s : State) : Host.Outcome State Fault Refusal :=
  storeAStep (-1) s

/-- LD A,(HL+) (R217). -/
def execLd_a_atHLI (s : State) : Host.Outcome State Fault Refusal :=
  loadAStep 1 s

/-- LD A,(HL-) (R218). -/
def execLd_a_atHLD (s : State) : Host.Outcome State Fault Refusal :=
  loadAStep (-1) s

/-- LD (a16),SP (R220). -/
def execLd_atA16_sp (a : Word) (s : State) : Host.Outcome State Fault Refusal :=
  storeSp a s

/-- LD SP,HL (R221). -/
def execLd_sp_hl (s : State) : Host.Outcome State Fault Refusal :=
  .next (spend 8 (setSp (getHL s) s))

/-- LD HL,SP+e8 (R222). -/
def execLd_hl_spE8 (e : Byte) (s : State) : Host.Outcome State Fault Refusal :=
  .next (spend 12 (setFlags (addSp s.cpu.sp e).2 (setHL (addSp s.cpu.sp e).1 s)))

/-- LD BC,n16 (R219). -/
def execLd_bc_n16 (n : Word) (s : State) : Host.Outcome State Fault Refusal :=
  ldRrImm .bc n s

/-- LD DE,n16 (R219). -/
def execLd_de_n16 (n : Word) (s : State) : Host.Outcome State Fault Refusal :=
  ldRrImm .de n s

/-- LD HL,n16 (R219). -/
def execLd_hl_n16 (n : Word) (s : State) : Host.Outcome State Fault Refusal :=
  ldRrImm .hl n s

/-- LD SP,n16 (R219). -/
def execLd_sp_n16 (n : Word) (s : State) : Host.Outcome State Fault Refusal :=
  ldRrImm .sp n s

/-- PUSH BC (R223). -/
def execPush_bc (s : State) : Host.Outcome State Fault Refusal :=
  pushPair .bc s

/-- POP BC (R224). -/
def execPop_bc (s : State) : Host.Outcome State Fault Refusal :=
  popPair .bc s

/-- PUSH DE (R223). -/
def execPush_de (s : State) : Host.Outcome State Fault Refusal :=
  pushPair .de s

/-- POP DE (R224). -/
def execPop_de (s : State) : Host.Outcome State Fault Refusal :=
  popPair .de s

/-- PUSH HL (R223). -/
def execPush_hl (s : State) : Host.Outcome State Fault Refusal :=
  pushPair .hl s

/-- POP HL (R224). -/
def execPop_hl (s : State) : Host.Outcome State Fault Refusal :=
  popPair .hl s

/-- PUSH AF (R223). -/
def execPush_af (s : State) : Host.Outcome State Fault Refusal :=
  pushPair .af s

/-- POP AF (R224). -/
def execPop_af (s : State) : Host.Outcome State Fault Refusal :=
  popPair .af s

end Sys2Proof.Machine
end

