-- ==== Sys2Proof/WellFormed.lean ====
section
/-! DEFINITION. Which terms of Instr are instructions of the machine. Every operand has exactly the width of its
field, so one check is left: the prefix byte 0xCB is not an instruction by itself (45 R406). -/

namespace Sys2Proof

/-- A term the decoder can give. `prefix_cb` is none: the pair 0xCB, o decodes to the CB row of o (45 R406, 30 R178);
log 18. -/
def WellFormed (i : Instr) : Bool :=
  match i with
  | .prefix_cb _ => false
  | _ => true

end Sys2Proof
end

