-- ==== Sys2Proof/Decode.lean ====
section
/-! DEFINITION. The decoder (30 R170 to R179) and the encoder. The decoder reads the fields x, y, z, p, cc of the
opcode byte (R171), the encoder lists the opcode of each row (R174, R175); the two are written apart. -/

namespace Sys2Proof

open Sys2Proof.Machine

/-- 10 R23: the accessor of a 3-bit code. -/
def r8OfCode (y : BitVec 3) : R8 :=
  if y = 0 then .b else if y = 1 then .c else if y = 2 then .d else if y = 3 then .e
  else if y = 4 then .h else if y = 5 then .l else if y = 6 then .atHL else .a

/-- 10 R24: the pair of table rr of a 2-bit code. -/
def rrOfCode (p : BitVec 2) : Rr := if p = 0 then .bc else if p = 1 then .de else if p = 2 then .hl else .sp

/-- 10 R24: the pair of table qq of a 2-bit code. -/
def qqOfCode (p : BitVec 2) : Qq := if p = 0 then .bc else if p = 1 then .de else if p = 2 then .hl else .af

/-- 30 R173: the condition of a 2-bit code. -/
def condOfCode (cc : BitVec 2) : Cond := if cc = 0 then .nz else if cc = 1 then .z else if cc = 2 then .nc else .c

/-- 30 R171: the ALU operation of a 3-bit code. -/
def aluOfCode (y : BitVec 3) : AluOp :=
  if y = 0 then .add else if y = 1 then .adc else if y = 2 then .sub else if y = 3 then .sbc
  else if y = 4 then .and else if y = 5 then .xor else if y = 6 then .or else .cp

/-- 30 R171, R175: the CB rotate or shift of a 3-bit code. -/
def rotOfCode (y : BitVec 3) : RotOp :=
  if y = 0 then .rlc else if y = 1 then .rrc else if y = 2 then .rl else if y = 3 then .rr
  else if y = 4 then .sla else if y = 5 then .sra else if y = 6 then .swap else .srl

/-- 30 R174, rows 4 to 7: LD r,r'; the place of LD (HL),(HL) is HALT (R177). -/
def ldInstr : R8 → R8 → Instr
  | .b, .b => .ld_b_b
  | .b, .c => .ld_b_c
  | .b, .d => .ld_b_d
  | .b, .e => .ld_b_e
  | .b, .h => .ld_b_h
  | .b, .l => .ld_b_l
  | .b, .atHL => .ld_b_atHL
  | .b, .a => .ld_b_a
  | .c, .b => .ld_c_b
  | .c, .c => .ld_c_c
  | .c, .d => .ld_c_d
  | .c, .e => .ld_c_e
  | .c, .h => .ld_c_h
  | .c, .l => .ld_c_l
  | .c, .atHL => .ld_c_atHL
  | .c, .a => .ld_c_a
  | .d, .b => .ld_d_b
  | .d, .c => .ld_d_c
  | .d, .d => .ld_d_d
  | .d, .e => .ld_d_e
  | .d, .h => .ld_d_h
  | .d, .l => .ld_d_l
  | .d, .atHL => .ld_d_atHL
  | .d, .a => .ld_d_a
  | .e, .b => .ld_e_b
  | .e, .c => .ld_e_c
  | .e, .d => .ld_e_d
  | .e, .e => .ld_e_e
  | .e, .h => .ld_e_h
  | .e, .l => .ld_e_l
  | .e, .atHL => .ld_e_atHL
  | .e, .a => .ld_e_a
  | .h, .b => .ld_h_b
  | .h, .c => .ld_h_c
  | .h, .d => .ld_h_d
  | .h, .e => .ld_h_e
  | .h, .h => .ld_h_h
  | .h, .l => .ld_h_l
  | .h, .atHL => .ld_h_atHL
  | .h, .a => .ld_h_a
  | .l, .b => .ld_l_b
  | .l, .c => .ld_l_c
  | .l, .d => .ld_l_d
  | .l, .e => .ld_l_e
  | .l, .h => .ld_l_h
  | .l, .l => .ld_l_l
  | .l, .atHL => .ld_l_atHL
  | .l, .a => .ld_l_a
  | .atHL, .b => .ld_atHL_b
  | .atHL, .c => .ld_atHL_c
  | .atHL, .d => .ld_atHL_d
  | .atHL, .e => .ld_atHL_e
  | .atHL, .h => .ld_atHL_h
  | .atHL, .l => .ld_atHL_l
  | .atHL, .atHL => .halt
  | .atHL, .a => .ld_atHL_a
  | .a, .b => .ld_a_b
  | .a, .c => .ld_a_c
  | .a, .d => .ld_a_d
  | .a, .e => .ld_a_e
  | .a, .h => .ld_a_h
  | .a, .l => .ld_a_l
  | .a, .atHL => .ld_a_atHL
  | .a, .a => .ld_a_a

/-- 30 R171: LD r,n8. -/
def ldImmInstr : R8 → Byte → Instr
  | .b, x => .ld_b_n8 x
  | .c, x => .ld_c_n8 x
  | .d, x => .ld_d_n8 x
  | .e, x => .ld_e_n8 x
  | .h, x => .ld_h_n8 x
  | .l, x => .ld_l_n8 x
  | .atHL, x => .ld_atHL_n8 x
  | .a, x => .ld_a_n8 x

/-- 30 R171: INC r. -/
def incInstr : R8 → Instr
  | .b => .inc_b
  | .c => .inc_c
  | .d => .inc_d
  | .e => .inc_e
  | .h => .inc_h
  | .l => .inc_l
  | .atHL => .inc_atHL
  | .a => .inc_a

/-- 30 R171: DEC r. -/
def decInstr : R8 → Instr
  | .b => .dec_b
  | .c => .dec_c
  | .d => .dec_d
  | .e => .dec_e
  | .h => .dec_h
  | .l => .dec_l
  | .atHL => .dec_atHL
  | .a => .dec_a

/-- 30 R171: ALU A,r. -/
def aluInstr : AluOp → R8 → Instr
  | .add, .b => .add_a_b
  | .add, .c => .add_a_c
  | .add, .d => .add_a_d
  | .add, .e => .add_a_e
  | .add, .h => .add_a_h
  | .add, .l => .add_a_l
  | .add, .atHL => .add_a_atHL
  | .add, .a => .add_a_a
  | .adc, .b => .adc_a_b
  | .adc, .c => .adc_a_c
  | .adc, .d => .adc_a_d
  | .adc, .e => .adc_a_e
  | .adc, .h => .adc_a_h
  | .adc, .l => .adc_a_l
  | .adc, .atHL => .adc_a_atHL
  | .adc, .a => .adc_a_a
  | .sub, .b => .sub_b
  | .sub, .c => .sub_c
  | .sub, .d => .sub_d
  | .sub, .e => .sub_e
  | .sub, .h => .sub_h
  | .sub, .l => .sub_l
  | .sub, .atHL => .sub_atHL
  | .sub, .a => .sub_a
  | .sbc, .b => .sbc_a_b
  | .sbc, .c => .sbc_a_c
  | .sbc, .d => .sbc_a_d
  | .sbc, .e => .sbc_a_e
  | .sbc, .h => .sbc_a_h
  | .sbc, .l => .sbc_a_l
  | .sbc, .atHL => .sbc_a_atHL
  | .sbc, .a => .sbc_a_a
  | .and, .b => .and_b
  | .and, .c => .and_c
  | .and, .d => .and_d
  | .and, .e => .and_e
  | .and, .h => .and_h
  | .and, .l => .and_l
  | .and, .atHL => .and_atHL
  | .and, .a => .and_a
  | .xor, .b => .xor_b
  | .xor, .c => .xor_c
  | .xor, .d => .xor_d
  | .xor, .e => .xor_e
  | .xor, .h => .xor_h
  | .xor, .l => .xor_l
  | .xor, .atHL => .xor_atHL
  | .xor, .a => .xor_a
  | .or, .b => .or_b
  | .or, .c => .or_c
  | .or, .d => .or_d
  | .or, .e => .or_e
  | .or, .h => .or_h
  | .or, .l => .or_l
  | .or, .atHL => .or_atHL
  | .or, .a => .or_a
  | .cp, .b => .cp_b
  | .cp, .c => .cp_c
  | .cp, .d => .cp_d
  | .cp, .e => .cp_e
  | .cp, .h => .cp_h
  | .cp, .l => .cp_l
  | .cp, .atHL => .cp_atHL
  | .cp, .a => .cp_a

/-- 30 R171: ALU A,n8. -/
def aluImmInstr : AluOp → Byte → Instr
  | .add, x => .add_a_n8 x
  | .adc, x => .adc_a_n8 x
  | .sub, x => .sub_n8 x
  | .sbc, x => .sbc_a_n8 x
  | .and, x => .and_n8 x
  | .xor, x => .xor_n8 x
  | .or, x => .or_n8 x
  | .cp, x => .cp_n8 x

/-- 30 R171: LD rr,n16. -/
def ldRrInstr : Rr → Word → Instr
  | .bc, x => .ld_bc_n16 x
  | .de, x => .ld_de_n16 x
  | .hl, x => .ld_hl_n16 x
  | .sp, x => .ld_sp_n16 x

/-- 30 R171: INC rr. -/
def incRrInstr : Rr → Instr
  | .bc => .inc_bc
  | .de => .inc_de
  | .hl => .inc_hl
  | .sp => .inc_sp

/-- 30 R171: DEC rr. -/
def decRrInstr : Rr → Instr
  | .bc => .dec_bc
  | .de => .dec_de
  | .hl => .dec_hl
  | .sp => .dec_sp

/-- 30 R171: ADD HL,rr. -/
def addHlInstr : Rr → Instr
  | .bc => .add_hl_bc
  | .de => .add_hl_de
  | .hl => .add_hl_hl
  | .sp => .add_hl_sp

/-- 30 R171: PUSH qq. -/
def pushInstr : Qq → Instr
  | .bc => .push_bc
  | .de => .push_de
  | .hl => .push_hl
  | .af => .push_af

/-- 30 R171: POP qq. -/
def popInstr : Qq → Instr
  | .bc => .pop_bc
  | .de => .pop_de
  | .hl => .pop_hl
  | .af => .pop_af

/-- 30 R171: JR cc,e8. -/
def jrCcInstr : Cond → Byte → Instr
  | .nz, x => .jr_nz_e8 x
  | .z, x => .jr_z_e8 x
  | .nc, x => .jr_nc_e8 x
  | .c, x => .jr_c_e8 x

/-- 30 R171: JP cc,a16. -/
def jpCcInstr : Cond → Word → Instr
  | .nz, x => .jp_nz_a16 x
  | .z, x => .jp_z_a16 x
  | .nc, x => .jp_nc_a16 x
  | .c, x => .jp_c_a16 x

/-- 30 R171: CALL cc,a16. -/
def callCcInstr : Cond → Word → Instr
  | .nz, x => .call_nz_a16 x
  | .z, x => .call_z_a16 x
  | .nc, x => .call_nc_a16 x
  | .c, x => .call_c_a16 x

/-- 30 R171: RET cc. -/
def retCcInstr : Cond → Instr
  | .nz => .ret_nz
  | .z => .ret_z
  | .nc => .ret_nc
  | .c => .ret_c

/-- 30 R171: RST, the target y * 8. -/
def rstInstr (y : BitVec 3) : Instr :=
  if y = 0 then .rst_00 else if y = 1 then .rst_08 else if y = 2 then .rst_10 else if y = 3 then .rst_18
  else if y = 4 then .rst_20 else if y = 5 then .rst_28 else if y = 6 then .rst_30 else .rst_38

/-- 30 R175: the CB rotates, shifts and SWAP. -/
def rotInstr : RotOp → R8 → Instr
  | .rlc, .b => .rlc_b
  | .rlc, .c => .rlc_c
  | .rlc, .d => .rlc_d
  | .rlc, .e => .rlc_e
  | .rlc, .h => .rlc_h
  | .rlc, .l => .rlc_l
  | .rlc, .atHL => .rlc_atHL
  | .rlc, .a => .rlc_a
  | .rrc, .b => .rrc_b
  | .rrc, .c => .rrc_c
  | .rrc, .d => .rrc_d
  | .rrc, .e => .rrc_e
  | .rrc, .h => .rrc_h
  | .rrc, .l => .rrc_l
  | .rrc, .atHL => .rrc_atHL
  | .rrc, .a => .rrc_a
  | .rl, .b => .rl_b
  | .rl, .c => .rl_c
  | .rl, .d => .rl_d
  | .rl, .e => .rl_e
  | .rl, .h => .rl_h
  | .rl, .l => .rl_l
  | .rl, .atHL => .rl_atHL
  | .rl, .a => .rl_a
  | .rr, .b => .rr_b
  | .rr, .c => .rr_c
  | .rr, .d => .rr_d
  | .rr, .e => .rr_e
  | .rr, .h => .rr_h
  | .rr, .l => .rr_l
  | .rr, .atHL => .rr_atHL
  | .rr, .a => .rr_a
  | .sla, .b => .sla_b
  | .sla, .c => .sla_c
  | .sla, .d => .sla_d
  | .sla, .e => .sla_e
  | .sla, .h => .sla_h
  | .sla, .l => .sla_l
  | .sla, .atHL => .sla_atHL
  | .sla, .a => .sla_a
  | .sra, .b => .sra_b
  | .sra, .c => .sra_c
  | .sra, .d => .sra_d
  | .sra, .e => .sra_e
  | .sra, .h => .sra_h
  | .sra, .l => .sra_l
  | .sra, .atHL => .sra_atHL
  | .sra, .a => .sra_a
  | .swap, .b => .swap_b
  | .swap, .c => .swap_c
  | .swap, .d => .swap_d
  | .swap, .e => .swap_e
  | .swap, .h => .swap_h
  | .swap, .l => .swap_l
  | .swap, .atHL => .swap_atHL
  | .swap, .a => .swap_a
  | .srl, .b => .srl_b
  | .srl, .c => .srl_c
  | .srl, .d => .srl_d
  | .srl, .e => .srl_e
  | .srl, .h => .srl_h
  | .srl, .l => .srl_l
  | .srl, .atHL => .srl_atHL
  | .srl, .a => .srl_a

/-- 30 R175: BIT 0,r. -/
def bit0Instr : R8 → Instr
  | .b => .bit_0_b
  | .c => .bit_0_c
  | .d => .bit_0_d
  | .e => .bit_0_e
  | .h => .bit_0_h
  | .l => .bit_0_l
  | .atHL => .bit_0_atHL
  | .a => .bit_0_a

/-- 30 R175: BIT 1,r. -/
def bit1Instr : R8 → Instr
  | .b => .bit_1_b
  | .c => .bit_1_c
  | .d => .bit_1_d
  | .e => .bit_1_e
  | .h => .bit_1_h
  | .l => .bit_1_l
  | .atHL => .bit_1_atHL
  | .a => .bit_1_a

/-- 30 R175: BIT 2,r. -/
def bit2Instr : R8 → Instr
  | .b => .bit_2_b
  | .c => .bit_2_c
  | .d => .bit_2_d
  | .e => .bit_2_e
  | .h => .bit_2_h
  | .l => .bit_2_l
  | .atHL => .bit_2_atHL
  | .a => .bit_2_a

/-- 30 R175: BIT 3,r. -/
def bit3Instr : R8 → Instr
  | .b => .bit_3_b
  | .c => .bit_3_c
  | .d => .bit_3_d
  | .e => .bit_3_e
  | .h => .bit_3_h
  | .l => .bit_3_l
  | .atHL => .bit_3_atHL
  | .a => .bit_3_a

/-- 30 R175: BIT 4,r. -/
def bit4Instr : R8 → Instr
  | .b => .bit_4_b
  | .c => .bit_4_c
  | .d => .bit_4_d
  | .e => .bit_4_e
  | .h => .bit_4_h
  | .l => .bit_4_l
  | .atHL => .bit_4_atHL
  | .a => .bit_4_a

/-- 30 R175: BIT 5,r. -/
def bit5Instr : R8 → Instr
  | .b => .bit_5_b
  | .c => .bit_5_c
  | .d => .bit_5_d
  | .e => .bit_5_e
  | .h => .bit_5_h
  | .l => .bit_5_l
  | .atHL => .bit_5_atHL
  | .a => .bit_5_a

/-- 30 R175: BIT 6,r. -/
def bit6Instr : R8 → Instr
  | .b => .bit_6_b
  | .c => .bit_6_c
  | .d => .bit_6_d
  | .e => .bit_6_e
  | .h => .bit_6_h
  | .l => .bit_6_l
  | .atHL => .bit_6_atHL
  | .a => .bit_6_a

/-- 30 R175: BIT 7,r. -/
def bit7Instr : R8 → Instr
  | .b => .bit_7_b
  | .c => .bit_7_c
  | .d => .bit_7_d
  | .e => .bit_7_e
  | .h => .bit_7_h
  | .l => .bit_7_l
  | .atHL => .bit_7_atHL
  | .a => .bit_7_a

/-- 30 R175: BIT b,r. -/
def bitInstr (b : BitVec 3) (r : R8) : Instr :=
  if b = 0 then bit0Instr r else if b = 1 then bit1Instr r else if b = 2 then bit2Instr r else if b = 3 then bit3Instr r
  else if b = 4 then bit4Instr r else if b = 5 then bit5Instr r else if b = 6 then bit6Instr r else bit7Instr r

/-- 30 R175: RES 0,r. -/
def res0Instr : R8 → Instr
  | .b => .res_0_b
  | .c => .res_0_c
  | .d => .res_0_d
  | .e => .res_0_e
  | .h => .res_0_h
  | .l => .res_0_l
  | .atHL => .res_0_atHL
  | .a => .res_0_a

/-- 30 R175: RES 1,r. -/
def res1Instr : R8 → Instr
  | .b => .res_1_b
  | .c => .res_1_c
  | .d => .res_1_d
  | .e => .res_1_e
  | .h => .res_1_h
  | .l => .res_1_l
  | .atHL => .res_1_atHL
  | .a => .res_1_a

/-- 30 R175: RES 2,r. -/
def res2Instr : R8 → Instr
  | .b => .res_2_b
  | .c => .res_2_c
  | .d => .res_2_d
  | .e => .res_2_e
  | .h => .res_2_h
  | .l => .res_2_l
  | .atHL => .res_2_atHL
  | .a => .res_2_a

/-- 30 R175: RES 3,r. -/
def res3Instr : R8 → Instr
  | .b => .res_3_b
  | .c => .res_3_c
  | .d => .res_3_d
  | .e => .res_3_e
  | .h => .res_3_h
  | .l => .res_3_l
  | .atHL => .res_3_atHL
  | .a => .res_3_a

/-- 30 R175: RES 4,r. -/
def res4Instr : R8 → Instr
  | .b => .res_4_b
  | .c => .res_4_c
  | .d => .res_4_d
  | .e => .res_4_e
  | .h => .res_4_h
  | .l => .res_4_l
  | .atHL => .res_4_atHL
  | .a => .res_4_a

/-- 30 R175: RES 5,r. -/
def res5Instr : R8 → Instr
  | .b => .res_5_b
  | .c => .res_5_c
  | .d => .res_5_d
  | .e => .res_5_e
  | .h => .res_5_h
  | .l => .res_5_l
  | .atHL => .res_5_atHL
  | .a => .res_5_a

/-- 30 R175: RES 6,r. -/
def res6Instr : R8 → Instr
  | .b => .res_6_b
  | .c => .res_6_c
  | .d => .res_6_d
  | .e => .res_6_e
  | .h => .res_6_h
  | .l => .res_6_l
  | .atHL => .res_6_atHL
  | .a => .res_6_a

/-- 30 R175: RES 7,r. -/
def res7Instr : R8 → Instr
  | .b => .res_7_b
  | .c => .res_7_c
  | .d => .res_7_d
  | .e => .res_7_e
  | .h => .res_7_h
  | .l => .res_7_l
  | .atHL => .res_7_atHL
  | .a => .res_7_a

/-- 30 R175: RES b,r. -/
def resInstr (b : BitVec 3) (r : R8) : Instr :=
  if b = 0 then res0Instr r else if b = 1 then res1Instr r else if b = 2 then res2Instr r else if b = 3 then res3Instr r
  else if b = 4 then res4Instr r else if b = 5 then res5Instr r else if b = 6 then res6Instr r else res7Instr r

/-- 30 R175: SET 0,r. -/
def set0Instr : R8 → Instr
  | .b => .set_0_b
  | .c => .set_0_c
  | .d => .set_0_d
  | .e => .set_0_e
  | .h => .set_0_h
  | .l => .set_0_l
  | .atHL => .set_0_atHL
  | .a => .set_0_a

/-- 30 R175: SET 1,r. -/
def set1Instr : R8 → Instr
  | .b => .set_1_b
  | .c => .set_1_c
  | .d => .set_1_d
  | .e => .set_1_e
  | .h => .set_1_h
  | .l => .set_1_l
  | .atHL => .set_1_atHL
  | .a => .set_1_a

/-- 30 R175: SET 2,r. -/
def set2Instr : R8 → Instr
  | .b => .set_2_b
  | .c => .set_2_c
  | .d => .set_2_d
  | .e => .set_2_e
  | .h => .set_2_h
  | .l => .set_2_l
  | .atHL => .set_2_atHL
  | .a => .set_2_a

/-- 30 R175: SET 3,r. -/
def set3Instr : R8 → Instr
  | .b => .set_3_b
  | .c => .set_3_c
  | .d => .set_3_d
  | .e => .set_3_e
  | .h => .set_3_h
  | .l => .set_3_l
  | .atHL => .set_3_atHL
  | .a => .set_3_a

/-- 30 R175: SET 4,r. -/
def set4Instr : R8 → Instr
  | .b => .set_4_b
  | .c => .set_4_c
  | .d => .set_4_d
  | .e => .set_4_e
  | .h => .set_4_h
  | .l => .set_4_l
  | .atHL => .set_4_atHL
  | .a => .set_4_a

/-- 30 R175: SET 5,r. -/
def set5Instr : R8 → Instr
  | .b => .set_5_b
  | .c => .set_5_c
  | .d => .set_5_d
  | .e => .set_5_e
  | .h => .set_5_h
  | .l => .set_5_l
  | .atHL => .set_5_atHL
  | .a => .set_5_a

/-- 30 R175: SET 6,r. -/
def set6Instr : R8 → Instr
  | .b => .set_6_b
  | .c => .set_6_c
  | .d => .set_6_d
  | .e => .set_6_e
  | .h => .set_6_h
  | .l => .set_6_l
  | .atHL => .set_6_atHL
  | .a => .set_6_a

/-- 30 R175: SET 7,r. -/
def set7Instr : R8 → Instr
  | .b => .set_7_b
  | .c => .set_7_c
  | .d => .set_7_d
  | .e => .set_7_e
  | .h => .set_7_h
  | .l => .set_7_l
  | .atHL => .set_7_atHL
  | .a => .set_7_a

/-- 30 R175: SET b,r. -/
def setInstr (b : BitVec 3) (r : R8) : Instr :=
  if b = 0 then set0Instr r else if b = 1 then set1Instr r else if b = 2 then set2Instr r else if b = 3 then set3Instr r
  else if b = 4 then set4Instr r else if b = 5 then set5Instr r else if b = 6 then set6Instr r else set7Instr r

/-- 30 R175: the CB table. -/
def decodeCb (o : Byte) : Instr :=
  let x := o.extractLsb' 6 2
  let y := o.extractLsb' 3 3
  let r := r8OfCode (o.extractLsb' 0 3)
  if x = 0 then rotInstr (rotOfCode y) r
  else if x = 1 then bitInstr y r
  else if x = 2 then resInstr y r
  else setInstr y r

/-- 30 R171, R174: the rows 0 to 3 of the base table, `lo` and `hi` the bytes after the opcode. -/
def decodeX0 (o lo hi : Byte) : Instr :=
  let y := o.extractLsb' 3 3
  let z := o.extractLsb' 0 3
  let p := rrOfCode (o.extractLsb' 4 2)
  let q := o.getLsbD 3
  let n := mkWord hi lo
  if z = 0 then
    if y = 0 then .nop
    else if y = 1 then .ld_atA16_sp n
    else if y = 2 then .stop lo
    else if y = 3 then .jr_e8 lo
    else jrCcInstr (condOfCode (o.extractLsb' 3 2)) lo
  else if z = 1 then if q then addHlInstr p else ldRrInstr p n
  else if z = 2 then
    if y = 0 then .ld_atBC_a
    else if y = 1 then .ld_a_atBC
    else if y = 2 then .ld_atDE_a
    else if y = 3 then .ld_a_atDE
    else if y = 4 then .ld_atHLI_a
    else if y = 5 then .ld_a_atHLI
    else if y = 6 then .ld_atHLD_a
    else .ld_a_atHLD
  else if z = 3 then if q then decRrInstr p else incRrInstr p
  else if z = 4 then incInstr (r8OfCode y)
  else if z = 5 then decInstr (r8OfCode y)
  else if z = 6 then ldImmInstr (r8OfCode y) lo
  else if y = 0 then .rlca
  else if y = 1 then .rrca
  else if y = 2 then .rla
  else if y = 3 then .rra
  else if y = 4 then .daa
  else if y = 5 then .cpl
  else if y = 6 then .scf
  else .ccf

/-- 30 R171, R174, R177: the rows C to F of the base table. -/
def decodeX3 (o lo hi : Byte) : Instr :=
  let y := o.extractLsb' 3 3
  let z := o.extractLsb' 0 3
  let cc := condOfCode (o.extractLsb' 3 2)
  let qq := qqOfCode (o.extractLsb' 4 2)
  let n := mkWord hi lo
  if z = 0 then
    if y = 4 then .ldh_atA8_a lo
    else if y = 5 then .add_sp_e8 lo
    else if y = 6 then .ldh_a_atA8 lo
    else if y = 7 then .ld_hl_spE8 lo
    else retCcInstr cc
  else if z = 1 then
    if y = 1 then .ret
    else if y = 3 then .reti
    else if y = 5 then .jp_hl
    else if y = 7 then .ld_sp_hl
    else popInstr qq
  else if z = 2 then
    if y = 4 then .ld_atC_a
    else if y = 5 then .ld_atA16_a n
    else if y = 6 then .ld_a_atC
    else if y = 7 then .ld_a_atA16 n
    else jpCcInstr cc n
  else if z = 3 then
    if y = 0 then .jp_a16 n
    else if y = 1 then decodeCb lo
    else if y = 2 then .illegal_d3
    else if y = 3 then .illegal_db
    else if y = 4 then .illegal_e3
    else if y = 5 then .illegal_eb
    else if y = 6 then .di
    else .ei
  else if z = 4 then
    if y = 4 then .illegal_e4
    else if y = 5 then .illegal_ec
    else if y = 6 then .illegal_f4
    else if y = 7 then .illegal_fc
    else callCcInstr cc n
  else if z = 5 then
    if y = 1 then .call_a16 n
    else if y = 3 then .illegal_dd
    else if y = 5 then .illegal_ed
    else if y = 7 then .illegal_fd
    else pushInstr qq
  else if z = 6 then aluImmInstr (aluOfCode y) lo
  else rstInstr y

/-- 30 R178: the instruction of an opcode byte and the two bytes after it; bytes the instruction does not have are
not read. -/
def decodeBytes (o lo hi : Byte) : Instr :=
  let x := o.extractLsb' 6 2
  let y := o.extractLsb' 3 3
  let z := o.extractLsb' 0 3
  if x = 0 then decodeX0 o lo hi
  else if x = 1 then ldInstr (r8OfCode y) (r8OfCode z)
  else if x = 2 then aluInstr (aluOfCode y) (r8OfCode z)
  else decodeX3 o lo hi

/-- 30 R176: the length of an instruction, from its first byte alone. -/
def instrLength (o : Byte) : Nat :=
  if o ∈ ([0x01, 0x08, 0x11, 0x21, 0x31, 0xC2, 0xC3, 0xC4, 0xCA, 0xCC, 0xCD, 0xD2, 0xD4, 0xDA, 0xDC, 0xEA, 0xFA] :
      List Byte) then 3
  else if o ∈ ([0x06, 0x0E, 0x10, 0x16, 0x18, 0x1E, 0x20, 0x26, 0x28, 0x2E, 0x30, 0x36, 0x38, 0x3E, 0xC6, 0xCB, 0xCE,
      0xD6, 0xDE, 0xE0, 0xE6, 0xE8, 0xEE, 0xF0, 0xF6, 0xF8, 0xFE] : List Byte) then 2
  else 1

/-- Why a byte list is no instruction: it ends before the instruction does. Every first byte has a row. -/
inductive DecodeError where
  | truncated
  deriving DecidableEq, Repr

/-- 30 R178: decode the first instruction of a byte list; the answer holds the bytes after it. -/
def decode : List Byte → Except DecodeError (Instr × List Byte)
  | [] => .error .truncated
  | o :: rest =>
    if rest.length + 1 < instrLength o then .error .truncated
    else .ok (decodeBytes o (rest.getD 0 0) (rest.getD 1 0), rest.drop (instrLength o - 1))

/-- 30 R174, R175: the bytes of an instruction, opcode first, a 16-bit operand low byte first (R172). -/
def encode : Instr → List Byte
  | .nop => [0x00]
  | .ld_bc_n16 n => [0x01, loByte n, hiByte n]
  | .ld_atBC_a => [0x02]
  | .inc_bc => [0x03]
  | .inc_b => [0x04]
  | .dec_b => [0x05]
  | .ld_b_n8 n => [0x06, n]
  | .rlca => [0x07]
  | .ld_atA16_sp a => [0x08, loByte a, hiByte a]
  | .add_hl_bc => [0x09]
  | .ld_a_atBC => [0x0A]
  | .dec_bc => [0x0B]
  | .inc_c => [0x0C]
  | .dec_c => [0x0D]
  | .ld_c_n8 n => [0x0E, n]
  | .rrca => [0x0F]
  | .stop x => [0x10, x]
  | .ld_de_n16 n => [0x11, loByte n, hiByte n]
  | .ld_atDE_a => [0x12]
  | .inc_de => [0x13]
  | .inc_d => [0x14]
  | .dec_d => [0x15]
  | .ld_d_n8 n => [0x16, n]
  | .rla => [0x17]
  | .jr_e8 e => [0x18, e]
  | .add_hl_de => [0x19]
  | .ld_a_atDE => [0x1A]
  | .dec_de => [0x1B]
  | .inc_e => [0x1C]
  | .dec_e => [0x1D]
  | .ld_e_n8 n => [0x1E, n]
  | .rra => [0x1F]
  | .jr_nz_e8 e => [0x20, e]
  | .ld_hl_n16 n => [0x21, loByte n, hiByte n]
  | .ld_atHLI_a => [0x22]
  | .inc_hl => [0x23]
  | .inc_h => [0x24]
  | .dec_h => [0x25]
  | .ld_h_n8 n => [0x26, n]
  | .daa => [0x27]
  | .jr_z_e8 e => [0x28, e]
  | .add_hl_hl => [0x29]
  | .ld_a_atHLI => [0x2A]
  | .dec_hl => [0x2B]
  | .inc_l => [0x2C]
  | .dec_l => [0x2D]
  | .ld_l_n8 n => [0x2E, n]
  | .cpl => [0x2F]
  | .jr_nc_e8 e => [0x30, e]
  | .ld_sp_n16 n => [0x31, loByte n, hiByte n]
  | .ld_atHLD_a => [0x32]
  | .inc_sp => [0x33]
  | .inc_atHL => [0x34]
  | .dec_atHL => [0x35]
  | .ld_atHL_n8 n => [0x36, n]
  | .scf => [0x37]
  | .jr_c_e8 e => [0x38, e]
  | .add_hl_sp => [0x39]
  | .ld_a_atHLD => [0x3A]
  | .dec_sp => [0x3B]
  | .inc_a => [0x3C]
  | .dec_a => [0x3D]
  | .ld_a_n8 n => [0x3E, n]
  | .ccf => [0x3F]
  | .ld_b_b => [0x40]
  | .ld_b_c => [0x41]
  | .ld_b_d => [0x42]
  | .ld_b_e => [0x43]
  | .ld_b_h => [0x44]
  | .ld_b_l => [0x45]
  | .ld_b_atHL => [0x46]
  | .ld_b_a => [0x47]
  | .ld_c_b => [0x48]
  | .ld_c_c => [0x49]
  | .ld_c_d => [0x4A]
  | .ld_c_e => [0x4B]
  | .ld_c_h => [0x4C]
  | .ld_c_l => [0x4D]
  | .ld_c_atHL => [0x4E]
  | .ld_c_a => [0x4F]
  | .ld_d_b => [0x50]
  | .ld_d_c => [0x51]
  | .ld_d_d => [0x52]
  | .ld_d_e => [0x53]
  | .ld_d_h => [0x54]
  | .ld_d_l => [0x55]
  | .ld_d_atHL => [0x56]
  | .ld_d_a => [0x57]
  | .ld_e_b => [0x58]
  | .ld_e_c => [0x59]
  | .ld_e_d => [0x5A]
  | .ld_e_e => [0x5B]
  | .ld_e_h => [0x5C]
  | .ld_e_l => [0x5D]
  | .ld_e_atHL => [0x5E]
  | .ld_e_a => [0x5F]
  | .ld_h_b => [0x60]
  | .ld_h_c => [0x61]
  | .ld_h_d => [0x62]
  | .ld_h_e => [0x63]
  | .ld_h_h => [0x64]
  | .ld_h_l => [0x65]
  | .ld_h_atHL => [0x66]
  | .ld_h_a => [0x67]
  | .ld_l_b => [0x68]
  | .ld_l_c => [0x69]
  | .ld_l_d => [0x6A]
  | .ld_l_e => [0x6B]
  | .ld_l_h => [0x6C]
  | .ld_l_l => [0x6D]
  | .ld_l_atHL => [0x6E]
  | .ld_l_a => [0x6F]
  | .ld_atHL_b => [0x70]
  | .ld_atHL_c => [0x71]
  | .ld_atHL_d => [0x72]
  | .ld_atHL_e => [0x73]
  | .ld_atHL_h => [0x74]
  | .ld_atHL_l => [0x75]
  | .halt => [0x76]
  | .ld_atHL_a => [0x77]
  | .ld_a_b => [0x78]
  | .ld_a_c => [0x79]
  | .ld_a_d => [0x7A]
  | .ld_a_e => [0x7B]
  | .ld_a_h => [0x7C]
  | .ld_a_l => [0x7D]
  | .ld_a_atHL => [0x7E]
  | .ld_a_a => [0x7F]
  | .add_a_b => [0x80]
  | .add_a_c => [0x81]
  | .add_a_d => [0x82]
  | .add_a_e => [0x83]
  | .add_a_h => [0x84]
  | .add_a_l => [0x85]
  | .add_a_atHL => [0x86]
  | .add_a_a => [0x87]
  | .adc_a_b => [0x88]
  | .adc_a_c => [0x89]
  | .adc_a_d => [0x8A]
  | .adc_a_e => [0x8B]
  | .adc_a_h => [0x8C]
  | .adc_a_l => [0x8D]
  | .adc_a_atHL => [0x8E]
  | .adc_a_a => [0x8F]
  | .sub_b => [0x90]
  | .sub_c => [0x91]
  | .sub_d => [0x92]
  | .sub_e => [0x93]
  | .sub_h => [0x94]
  | .sub_l => [0x95]
  | .sub_atHL => [0x96]
  | .sub_a => [0x97]
  | .sbc_a_b => [0x98]
  | .sbc_a_c => [0x99]
  | .sbc_a_d => [0x9A]
  | .sbc_a_e => [0x9B]
  | .sbc_a_h => [0x9C]
  | .sbc_a_l => [0x9D]
  | .sbc_a_atHL => [0x9E]
  | .sbc_a_a => [0x9F]
  | .and_b => [0xA0]
  | .and_c => [0xA1]
  | .and_d => [0xA2]
  | .and_e => [0xA3]
  | .and_h => [0xA4]
  | .and_l => [0xA5]
  | .and_atHL => [0xA6]
  | .and_a => [0xA7]
  | .xor_b => [0xA8]
  | .xor_c => [0xA9]
  | .xor_d => [0xAA]
  | .xor_e => [0xAB]
  | .xor_h => [0xAC]
  | .xor_l => [0xAD]
  | .xor_atHL => [0xAE]
  | .xor_a => [0xAF]
  | .or_b => [0xB0]
  | .or_c => [0xB1]
  | .or_d => [0xB2]
  | .or_e => [0xB3]
  | .or_h => [0xB4]
  | .or_l => [0xB5]
  | .or_atHL => [0xB6]
  | .or_a => [0xB7]
  | .cp_b => [0xB8]
  | .cp_c => [0xB9]
  | .cp_d => [0xBA]
  | .cp_e => [0xBB]
  | .cp_h => [0xBC]
  | .cp_l => [0xBD]
  | .cp_atHL => [0xBE]
  | .cp_a => [0xBF]
  | .ret_nz => [0xC0]
  | .pop_bc => [0xC1]
  | .jp_nz_a16 a => [0xC2, loByte a, hiByte a]
  | .jp_a16 a => [0xC3, loByte a, hiByte a]
  | .call_nz_a16 a => [0xC4, loByte a, hiByte a]
  | .push_bc => [0xC5]
  | .add_a_n8 n => [0xC6, n]
  | .rst_00 => [0xC7]
  | .ret_z => [0xC8]
  | .ret => [0xC9]
  | .jp_z_a16 a => [0xCA, loByte a, hiByte a]
  | .prefix_cb o => [0xCB, o]
  | .call_z_a16 a => [0xCC, loByte a, hiByte a]
  | .call_a16 a => [0xCD, loByte a, hiByte a]
  | .adc_a_n8 n => [0xCE, n]
  | .rst_08 => [0xCF]
  | .ret_nc => [0xD0]
  | .pop_de => [0xD1]
  | .jp_nc_a16 a => [0xD2, loByte a, hiByte a]
  | .illegal_d3 => [0xD3]
  | .call_nc_a16 a => [0xD4, loByte a, hiByte a]
  | .push_de => [0xD5]
  | .sub_n8 n => [0xD6, n]
  | .rst_10 => [0xD7]
  | .ret_c => [0xD8]
  | .reti => [0xD9]
  | .jp_c_a16 a => [0xDA, loByte a, hiByte a]
  | .illegal_db => [0xDB]
  | .call_c_a16 a => [0xDC, loByte a, hiByte a]
  | .illegal_dd => [0xDD]
  | .sbc_a_n8 n => [0xDE, n]
  | .rst_18 => [0xDF]
  | .ldh_atA8_a n => [0xE0, n]
  | .pop_hl => [0xE1]
  | .ld_atC_a => [0xE2]
  | .illegal_e3 => [0xE3]
  | .illegal_e4 => [0xE4]
  | .push_hl => [0xE5]
  | .and_n8 n => [0xE6, n]
  | .rst_20 => [0xE7]
  | .add_sp_e8 e => [0xE8, e]
  | .jp_hl => [0xE9]
  | .ld_atA16_a a => [0xEA, loByte a, hiByte a]
  | .illegal_eb => [0xEB]
  | .illegal_ec => [0xEC]
  | .illegal_ed => [0xED]
  | .xor_n8 n => [0xEE, n]
  | .rst_28 => [0xEF]
  | .ldh_a_atA8 n => [0xF0, n]
  | .pop_af => [0xF1]
  | .ld_a_atC => [0xF2]
  | .di => [0xF3]
  | .illegal_f4 => [0xF4]
  | .push_af => [0xF5]
  | .or_n8 n => [0xF6, n]
  | .rst_30 => [0xF7]
  | .ld_hl_spE8 e => [0xF8, e]
  | .ld_sp_hl => [0xF9]
  | .ld_a_atA16 a => [0xFA, loByte a, hiByte a]
  | .ei => [0xFB]
  | .illegal_fc => [0xFC]
  | .illegal_fd => [0xFD]
  | .cp_n8 n => [0xFE, n]
  | .rst_38 => [0xFF]
  | .rlc_b => [0xCB, 0x00]
  | .rlc_c => [0xCB, 0x01]
  | .rlc_d => [0xCB, 0x02]
  | .rlc_e => [0xCB, 0x03]
  | .rlc_h => [0xCB, 0x04]
  | .rlc_l => [0xCB, 0x05]
  | .rlc_atHL => [0xCB, 0x06]
  | .rlc_a => [0xCB, 0x07]
  | .rrc_b => [0xCB, 0x08]
  | .rrc_c => [0xCB, 0x09]
  | .rrc_d => [0xCB, 0x0A]
  | .rrc_e => [0xCB, 0x0B]
  | .rrc_h => [0xCB, 0x0C]
  | .rrc_l => [0xCB, 0x0D]
  | .rrc_atHL => [0xCB, 0x0E]
  | .rrc_a => [0xCB, 0x0F]
  | .rl_b => [0xCB, 0x10]
  | .rl_c => [0xCB, 0x11]
  | .rl_d => [0xCB, 0x12]
  | .rl_e => [0xCB, 0x13]
  | .rl_h => [0xCB, 0x14]
  | .rl_l => [0xCB, 0x15]
  | .rl_atHL => [0xCB, 0x16]
  | .rl_a => [0xCB, 0x17]
  | .rr_b => [0xCB, 0x18]
  | .rr_c => [0xCB, 0x19]
  | .rr_d => [0xCB, 0x1A]
  | .rr_e => [0xCB, 0x1B]
  | .rr_h => [0xCB, 0x1C]
  | .rr_l => [0xCB, 0x1D]
  | .rr_atHL => [0xCB, 0x1E]
  | .rr_a => [0xCB, 0x1F]
  | .sla_b => [0xCB, 0x20]
  | .sla_c => [0xCB, 0x21]
  | .sla_d => [0xCB, 0x22]
  | .sla_e => [0xCB, 0x23]
  | .sla_h => [0xCB, 0x24]
  | .sla_l => [0xCB, 0x25]
  | .sla_atHL => [0xCB, 0x26]
  | .sla_a => [0xCB, 0x27]
  | .sra_b => [0xCB, 0x28]
  | .sra_c => [0xCB, 0x29]
  | .sra_d => [0xCB, 0x2A]
  | .sra_e => [0xCB, 0x2B]
  | .sra_h => [0xCB, 0x2C]
  | .sra_l => [0xCB, 0x2D]
  | .sra_atHL => [0xCB, 0x2E]
  | .sra_a => [0xCB, 0x2F]
  | .swap_b => [0xCB, 0x30]
  | .swap_c => [0xCB, 0x31]
  | .swap_d => [0xCB, 0x32]
  | .swap_e => [0xCB, 0x33]
  | .swap_h => [0xCB, 0x34]
  | .swap_l => [0xCB, 0x35]
  | .swap_atHL => [0xCB, 0x36]
  | .swap_a => [0xCB, 0x37]
  | .srl_b => [0xCB, 0x38]
  | .srl_c => [0xCB, 0x39]
  | .srl_d => [0xCB, 0x3A]
  | .srl_e => [0xCB, 0x3B]
  | .srl_h => [0xCB, 0x3C]
  | .srl_l => [0xCB, 0x3D]
  | .srl_atHL => [0xCB, 0x3E]
  | .srl_a => [0xCB, 0x3F]
  | .bit_0_b => [0xCB, 0x40]
  | .bit_0_c => [0xCB, 0x41]
  | .bit_0_d => [0xCB, 0x42]
  | .bit_0_e => [0xCB, 0x43]
  | .bit_0_h => [0xCB, 0x44]
  | .bit_0_l => [0xCB, 0x45]
  | .bit_0_atHL => [0xCB, 0x46]
  | .bit_0_a => [0xCB, 0x47]
  | .bit_1_b => [0xCB, 0x48]
  | .bit_1_c => [0xCB, 0x49]
  | .bit_1_d => [0xCB, 0x4A]
  | .bit_1_e => [0xCB, 0x4B]
  | .bit_1_h => [0xCB, 0x4C]
  | .bit_1_l => [0xCB, 0x4D]
  | .bit_1_atHL => [0xCB, 0x4E]
  | .bit_1_a => [0xCB, 0x4F]
  | .bit_2_b => [0xCB, 0x50]
  | .bit_2_c => [0xCB, 0x51]
  | .bit_2_d => [0xCB, 0x52]
  | .bit_2_e => [0xCB, 0x53]
  | .bit_2_h => [0xCB, 0x54]
  | .bit_2_l => [0xCB, 0x55]
  | .bit_2_atHL => [0xCB, 0x56]
  | .bit_2_a => [0xCB, 0x57]
  | .bit_3_b => [0xCB, 0x58]
  | .bit_3_c => [0xCB, 0x59]
  | .bit_3_d => [0xCB, 0x5A]
  | .bit_3_e => [0xCB, 0x5B]
  | .bit_3_h => [0xCB, 0x5C]
  | .bit_3_l => [0xCB, 0x5D]
  | .bit_3_atHL => [0xCB, 0x5E]
  | .bit_3_a => [0xCB, 0x5F]
  | .bit_4_b => [0xCB, 0x60]
  | .bit_4_c => [0xCB, 0x61]
  | .bit_4_d => [0xCB, 0x62]
  | .bit_4_e => [0xCB, 0x63]
  | .bit_4_h => [0xCB, 0x64]
  | .bit_4_l => [0xCB, 0x65]
  | .bit_4_atHL => [0xCB, 0x66]
  | .bit_4_a => [0xCB, 0x67]
  | .bit_5_b => [0xCB, 0x68]
  | .bit_5_c => [0xCB, 0x69]
  | .bit_5_d => [0xCB, 0x6A]
  | .bit_5_e => [0xCB, 0x6B]
  | .bit_5_h => [0xCB, 0x6C]
  | .bit_5_l => [0xCB, 0x6D]
  | .bit_5_atHL => [0xCB, 0x6E]
  | .bit_5_a => [0xCB, 0x6F]
  | .bit_6_b => [0xCB, 0x70]
  | .bit_6_c => [0xCB, 0x71]
  | .bit_6_d => [0xCB, 0x72]
  | .bit_6_e => [0xCB, 0x73]
  | .bit_6_h => [0xCB, 0x74]
  | .bit_6_l => [0xCB, 0x75]
  | .bit_6_atHL => [0xCB, 0x76]
  | .bit_6_a => [0xCB, 0x77]
  | .bit_7_b => [0xCB, 0x78]
  | .bit_7_c => [0xCB, 0x79]
  | .bit_7_d => [0xCB, 0x7A]
  | .bit_7_e => [0xCB, 0x7B]
  | .bit_7_h => [0xCB, 0x7C]
  | .bit_7_l => [0xCB, 0x7D]
  | .bit_7_atHL => [0xCB, 0x7E]
  | .bit_7_a => [0xCB, 0x7F]
  | .res_0_b => [0xCB, 0x80]
  | .res_0_c => [0xCB, 0x81]
  | .res_0_d => [0xCB, 0x82]
  | .res_0_e => [0xCB, 0x83]
  | .res_0_h => [0xCB, 0x84]
  | .res_0_l => [0xCB, 0x85]
  | .res_0_atHL => [0xCB, 0x86]
  | .res_0_a => [0xCB, 0x87]
  | .res_1_b => [0xCB, 0x88]
  | .res_1_c => [0xCB, 0x89]
  | .res_1_d => [0xCB, 0x8A]
  | .res_1_e => [0xCB, 0x8B]
  | .res_1_h => [0xCB, 0x8C]
  | .res_1_l => [0xCB, 0x8D]
  | .res_1_atHL => [0xCB, 0x8E]
  | .res_1_a => [0xCB, 0x8F]
  | .res_2_b => [0xCB, 0x90]
  | .res_2_c => [0xCB, 0x91]
  | .res_2_d => [0xCB, 0x92]
  | .res_2_e => [0xCB, 0x93]
  | .res_2_h => [0xCB, 0x94]
  | .res_2_l => [0xCB, 0x95]
  | .res_2_atHL => [0xCB, 0x96]
  | .res_2_a => [0xCB, 0x97]
  | .res_3_b => [0xCB, 0x98]
  | .res_3_c => [0xCB, 0x99]
  | .res_3_d => [0xCB, 0x9A]
  | .res_3_e => [0xCB, 0x9B]
  | .res_3_h => [0xCB, 0x9C]
  | .res_3_l => [0xCB, 0x9D]
  | .res_3_atHL => [0xCB, 0x9E]
  | .res_3_a => [0xCB, 0x9F]
  | .res_4_b => [0xCB, 0xA0]
  | .res_4_c => [0xCB, 0xA1]
  | .res_4_d => [0xCB, 0xA2]
  | .res_4_e => [0xCB, 0xA3]
  | .res_4_h => [0xCB, 0xA4]
  | .res_4_l => [0xCB, 0xA5]
  | .res_4_atHL => [0xCB, 0xA6]
  | .res_4_a => [0xCB, 0xA7]
  | .res_5_b => [0xCB, 0xA8]
  | .res_5_c => [0xCB, 0xA9]
  | .res_5_d => [0xCB, 0xAA]
  | .res_5_e => [0xCB, 0xAB]
  | .res_5_h => [0xCB, 0xAC]
  | .res_5_l => [0xCB, 0xAD]
  | .res_5_atHL => [0xCB, 0xAE]
  | .res_5_a => [0xCB, 0xAF]
  | .res_6_b => [0xCB, 0xB0]
  | .res_6_c => [0xCB, 0xB1]
  | .res_6_d => [0xCB, 0xB2]
  | .res_6_e => [0xCB, 0xB3]
  | .res_6_h => [0xCB, 0xB4]
  | .res_6_l => [0xCB, 0xB5]
  | .res_6_atHL => [0xCB, 0xB6]
  | .res_6_a => [0xCB, 0xB7]
  | .res_7_b => [0xCB, 0xB8]
  | .res_7_c => [0xCB, 0xB9]
  | .res_7_d => [0xCB, 0xBA]
  | .res_7_e => [0xCB, 0xBB]
  | .res_7_h => [0xCB, 0xBC]
  | .res_7_l => [0xCB, 0xBD]
  | .res_7_atHL => [0xCB, 0xBE]
  | .res_7_a => [0xCB, 0xBF]
  | .set_0_b => [0xCB, 0xC0]
  | .set_0_c => [0xCB, 0xC1]
  | .set_0_d => [0xCB, 0xC2]
  | .set_0_e => [0xCB, 0xC3]
  | .set_0_h => [0xCB, 0xC4]
  | .set_0_l => [0xCB, 0xC5]
  | .set_0_atHL => [0xCB, 0xC6]
  | .set_0_a => [0xCB, 0xC7]
  | .set_1_b => [0xCB, 0xC8]
  | .set_1_c => [0xCB, 0xC9]
  | .set_1_d => [0xCB, 0xCA]
  | .set_1_e => [0xCB, 0xCB]
  | .set_1_h => [0xCB, 0xCC]
  | .set_1_l => [0xCB, 0xCD]
  | .set_1_atHL => [0xCB, 0xCE]
  | .set_1_a => [0xCB, 0xCF]
  | .set_2_b => [0xCB, 0xD0]
  | .set_2_c => [0xCB, 0xD1]
  | .set_2_d => [0xCB, 0xD2]
  | .set_2_e => [0xCB, 0xD3]
  | .set_2_h => [0xCB, 0xD4]
  | .set_2_l => [0xCB, 0xD5]
  | .set_2_atHL => [0xCB, 0xD6]
  | .set_2_a => [0xCB, 0xD7]
  | .set_3_b => [0xCB, 0xD8]
  | .set_3_c => [0xCB, 0xD9]
  | .set_3_d => [0xCB, 0xDA]
  | .set_3_e => [0xCB, 0xDB]
  | .set_3_h => [0xCB, 0xDC]
  | .set_3_l => [0xCB, 0xDD]
  | .set_3_atHL => [0xCB, 0xDE]
  | .set_3_a => [0xCB, 0xDF]
  | .set_4_b => [0xCB, 0xE0]
  | .set_4_c => [0xCB, 0xE1]
  | .set_4_d => [0xCB, 0xE2]
  | .set_4_e => [0xCB, 0xE3]
  | .set_4_h => [0xCB, 0xE4]
  | .set_4_l => [0xCB, 0xE5]
  | .set_4_atHL => [0xCB, 0xE6]
  | .set_4_a => [0xCB, 0xE7]
  | .set_5_b => [0xCB, 0xE8]
  | .set_5_c => [0xCB, 0xE9]
  | .set_5_d => [0xCB, 0xEA]
  | .set_5_e => [0xCB, 0xEB]
  | .set_5_h => [0xCB, 0xEC]
  | .set_5_l => [0xCB, 0xED]
  | .set_5_atHL => [0xCB, 0xEE]
  | .set_5_a => [0xCB, 0xEF]
  | .set_6_b => [0xCB, 0xF0]
  | .set_6_c => [0xCB, 0xF1]
  | .set_6_d => [0xCB, 0xF2]
  | .set_6_e => [0xCB, 0xF3]
  | .set_6_h => [0xCB, 0xF4]
  | .set_6_l => [0xCB, 0xF5]
  | .set_6_atHL => [0xCB, 0xF6]
  | .set_6_a => [0xCB, 0xF7]
  | .set_7_b => [0xCB, 0xF8]
  | .set_7_c => [0xCB, 0xF9]
  | .set_7_d => [0xCB, 0xFA]
  | .set_7_e => [0xCB, 0xFB]
  | .set_7_h => [0xCB, 0xFC]
  | .set_7_l => [0xCB, 0xFD]
  | .set_7_atHL => [0xCB, 0xFE]
  | .set_7_a => [0xCB, 0xFF]

/-- The bytes of a word numbered as spec/opcode_table.json numbers it. A row's word has its first byte lowest, but the
table writes a CB row as 0xCBoo, the prefix 0xCB (the first byte) in bits 15:8: log 19. Bits above the word are 0. -/
def tableBytes (nbits w : Nat) : List Byte :=
  if 8 < nbits ∧ w / 0x100 % 0x100 = 0xCB then [0xCB, BitVec.ofNat 8 w, 0x00]
  else [BitVec.ofNat 8 w, BitVec.ofNat 8 (w / 0x100), BitVec.ofNat 8 (w / 0x10000)]

/-- The instruction the decoder reads from a table row's word of `nbits` bits, the bits above being 0. -/
def decodeTableWord (nbits w : Nat) : Option Instr :=
  match decode (tableBytes nbits w) with
  | .ok (i, _) => some i
  | .error _ => none

end Sys2Proof
end

