-- ==== Sys2Proof/Machine/Rotates.lean ====
section
/-! DEFINITION. Accumulator rotates (43 R330 to R333) and the CB rotates, shifts and SWAP (43 R334 to R342). -/

namespace Sys2Proof.Machine

/-- 43 R330 to R333: an accumulator rotate, its result and the bit rotated out; Z is cleared. -/
def accRotate (x : Byte × Bool) (s : State) : Host.Outcome State Fault Refusal :=
  .next (spend 4 (setFlags (accRotFlags x.2) (setA x.1 s)))

/-- 43 R335 to R342: the result and the C of a CB rotate, shift or SWAP. -/
def rotApply (op : RotOp) (v : Byte) (c0 : Bool) : Byte × Bool :=
  match op with
  | .rlc => rlc8 v
  | .rrc => rrc8 v
  | .rl => rl8 v c0
  | .rr => rr8 v c0
  | .sla => sla8 v
  | .sra => sra8 v
  | .swap => swap8 v
  | .srl => srl8 v

/-- 43 R334: the cost of a CB instruction that writes back. -/
def cbCost (r : R8) : Nat := if r = .atHL then 16 else 8

/-- 43 R334: a CB rotate, shift or SWAP: read the operand, write it back, set the flags. -/
def cbRotate (op : RotOp) (r : R8) (s : State) : Host.Outcome State Fault Refusal :=
  ((get8 r s).bind fun v s =>
    (set8 r (rotApply op v s.cpu.f.c).1 s).then fun _ s' =>
      spend (cbCost r) (setFlags (cbRotFlags (rotApply op v s.cpu.f.c).1 (rotApply op v s.cpu.f.c).2) s')).outcome

/-- RLCA (R330). -/
def execRlca (s : State) : Host.Outcome State Fault Refusal :=
  accRotate (rlc8 s.cpu.a) s

/-- RRCA (R331). -/
def execRrca (s : State) : Host.Outcome State Fault Refusal :=
  accRotate (rrc8 s.cpu.a) s

/-- RLA (R332). -/
def execRla (s : State) : Host.Outcome State Fault Refusal :=
  accRotate (rl8 s.cpu.a s.cpu.f.c) s

/-- RRA (R333). -/
def execRra (s : State) : Host.Outcome State Fault Refusal :=
  accRotate (rr8 s.cpu.a s.cpu.f.c) s

/-- RLC B (R335). -/
def execRlc_b (s : State) : Host.Outcome State Fault Refusal :=
  cbRotate .rlc .b s

/-- RLC C (R335). -/
def execRlc_c (s : State) : Host.Outcome State Fault Refusal :=
  cbRotate .rlc .c s

/-- RLC D (R335). -/
def execRlc_d (s : State) : Host.Outcome State Fault Refusal :=
  cbRotate .rlc .d s

/-- RLC E (R335). -/
def execRlc_e (s : State) : Host.Outcome State Fault Refusal :=
  cbRotate .rlc .e s

/-- RLC H (R335). -/
def execRlc_h (s : State) : Host.Outcome State Fault Refusal :=
  cbRotate .rlc .h s

/-- RLC L (R335). -/
def execRlc_l (s : State) : Host.Outcome State Fault Refusal :=
  cbRotate .rlc .l s

/-- RLC (HL) (R335). -/
def execRlc_atHL (s : State) : Host.Outcome State Fault Refusal :=
  cbRotate .rlc .atHL s

/-- RLC A (R335). -/
def execRlc_a (s : State) : Host.Outcome State Fault Refusal :=
  cbRotate .rlc .a s

/-- RRC B (R336). -/
def execRrc_b (s : State) : Host.Outcome State Fault Refusal :=
  cbRotate .rrc .b s

/-- RRC C (R336). -/
def execRrc_c (s : State) : Host.Outcome State Fault Refusal :=
  cbRotate .rrc .c s

/-- RRC D (R336). -/
def execRrc_d (s : State) : Host.Outcome State Fault Refusal :=
  cbRotate .rrc .d s

/-- RRC E (R336). -/
def execRrc_e (s : State) : Host.Outcome State Fault Refusal :=
  cbRotate .rrc .e s

/-- RRC H (R336). -/
def execRrc_h (s : State) : Host.Outcome State Fault Refusal :=
  cbRotate .rrc .h s

/-- RRC L (R336). -/
def execRrc_l (s : State) : Host.Outcome State Fault Refusal :=
  cbRotate .rrc .l s

/-- RRC (HL) (R336). -/
def execRrc_atHL (s : State) : Host.Outcome State Fault Refusal :=
  cbRotate .rrc .atHL s

/-- RRC A (R336). -/
def execRrc_a (s : State) : Host.Outcome State Fault Refusal :=
  cbRotate .rrc .a s

/-- RL B (R337). -/
def execRl_b (s : State) : Host.Outcome State Fault Refusal :=
  cbRotate .rl .b s

/-- RL C (R337). -/
def execRl_c (s : State) : Host.Outcome State Fault Refusal :=
  cbRotate .rl .c s

/-- RL D (R337). -/
def execRl_d (s : State) : Host.Outcome State Fault Refusal :=
  cbRotate .rl .d s

/-- RL E (R337). -/
def execRl_e (s : State) : Host.Outcome State Fault Refusal :=
  cbRotate .rl .e s

/-- RL H (R337). -/
def execRl_h (s : State) : Host.Outcome State Fault Refusal :=
  cbRotate .rl .h s

/-- RL L (R337). -/
def execRl_l (s : State) : Host.Outcome State Fault Refusal :=
  cbRotate .rl .l s

/-- RL (HL) (R337). -/
def execRl_atHL (s : State) : Host.Outcome State Fault Refusal :=
  cbRotate .rl .atHL s

/-- RL A (R337). -/
def execRl_a (s : State) : Host.Outcome State Fault Refusal :=
  cbRotate .rl .a s

/-- RR B (R338). -/
def execRr_b (s : State) : Host.Outcome State Fault Refusal :=
  cbRotate .rr .b s

/-- RR C (R338). -/
def execRr_c (s : State) : Host.Outcome State Fault Refusal :=
  cbRotate .rr .c s

/-- RR D (R338). -/
def execRr_d (s : State) : Host.Outcome State Fault Refusal :=
  cbRotate .rr .d s

/-- RR E (R338). -/
def execRr_e (s : State) : Host.Outcome State Fault Refusal :=
  cbRotate .rr .e s

/-- RR H (R338). -/
def execRr_h (s : State) : Host.Outcome State Fault Refusal :=
  cbRotate .rr .h s

/-- RR L (R338). -/
def execRr_l (s : State) : Host.Outcome State Fault Refusal :=
  cbRotate .rr .l s

/-- RR (HL) (R338). -/
def execRr_atHL (s : State) : Host.Outcome State Fault Refusal :=
  cbRotate .rr .atHL s

/-- RR A (R338). -/
def execRr_a (s : State) : Host.Outcome State Fault Refusal :=
  cbRotate .rr .a s

/-- SLA B (R339). -/
def execSla_b (s : State) : Host.Outcome State Fault Refusal :=
  cbRotate .sla .b s

/-- SLA C (R339). -/
def execSla_c (s : State) : Host.Outcome State Fault Refusal :=
  cbRotate .sla .c s

/-- SLA D (R339). -/
def execSla_d (s : State) : Host.Outcome State Fault Refusal :=
  cbRotate .sla .d s

/-- SLA E (R339). -/
def execSla_e (s : State) : Host.Outcome State Fault Refusal :=
  cbRotate .sla .e s

/-- SLA H (R339). -/
def execSla_h (s : State) : Host.Outcome State Fault Refusal :=
  cbRotate .sla .h s

/-- SLA L (R339). -/
def execSla_l (s : State) : Host.Outcome State Fault Refusal :=
  cbRotate .sla .l s

/-- SLA (HL) (R339). -/
def execSla_atHL (s : State) : Host.Outcome State Fault Refusal :=
  cbRotate .sla .atHL s

/-- SLA A (R339). -/
def execSla_a (s : State) : Host.Outcome State Fault Refusal :=
  cbRotate .sla .a s

/-- SRA B (R340). -/
def execSra_b (s : State) : Host.Outcome State Fault Refusal :=
  cbRotate .sra .b s

/-- SRA C (R340). -/
def execSra_c (s : State) : Host.Outcome State Fault Refusal :=
  cbRotate .sra .c s

/-- SRA D (R340). -/
def execSra_d (s : State) : Host.Outcome State Fault Refusal :=
  cbRotate .sra .d s

/-- SRA E (R340). -/
def execSra_e (s : State) : Host.Outcome State Fault Refusal :=
  cbRotate .sra .e s

/-- SRA H (R340). -/
def execSra_h (s : State) : Host.Outcome State Fault Refusal :=
  cbRotate .sra .h s

/-- SRA L (R340). -/
def execSra_l (s : State) : Host.Outcome State Fault Refusal :=
  cbRotate .sra .l s

/-- SRA (HL) (R340). -/
def execSra_atHL (s : State) : Host.Outcome State Fault Refusal :=
  cbRotate .sra .atHL s

/-- SRA A (R340). -/
def execSra_a (s : State) : Host.Outcome State Fault Refusal :=
  cbRotate .sra .a s

/-- SWAP B (R341). -/
def execSwap_b (s : State) : Host.Outcome State Fault Refusal :=
  cbRotate .swap .b s

/-- SWAP C (R341). -/
def execSwap_c (s : State) : Host.Outcome State Fault Refusal :=
  cbRotate .swap .c s

/-- SWAP D (R341). -/
def execSwap_d (s : State) : Host.Outcome State Fault Refusal :=
  cbRotate .swap .d s

/-- SWAP E (R341). -/
def execSwap_e (s : State) : Host.Outcome State Fault Refusal :=
  cbRotate .swap .e s

/-- SWAP H (R341). -/
def execSwap_h (s : State) : Host.Outcome State Fault Refusal :=
  cbRotate .swap .h s

/-- SWAP L (R341). -/
def execSwap_l (s : State) : Host.Outcome State Fault Refusal :=
  cbRotate .swap .l s

/-- SWAP (HL) (R341). -/
def execSwap_atHL (s : State) : Host.Outcome State Fault Refusal :=
  cbRotate .swap .atHL s

/-- SWAP A (R341). -/
def execSwap_a (s : State) : Host.Outcome State Fault Refusal :=
  cbRotate .swap .a s

/-- SRL B (R342). -/
def execSrl_b (s : State) : Host.Outcome State Fault Refusal :=
  cbRotate .srl .b s

/-- SRL C (R342). -/
def execSrl_c (s : State) : Host.Outcome State Fault Refusal :=
  cbRotate .srl .c s

/-- SRL D (R342). -/
def execSrl_d (s : State) : Host.Outcome State Fault Refusal :=
  cbRotate .srl .d s

/-- SRL E (R342). -/
def execSrl_e (s : State) : Host.Outcome State Fault Refusal :=
  cbRotate .srl .e s

/-- SRL H (R342). -/
def execSrl_h (s : State) : Host.Outcome State Fault Refusal :=
  cbRotate .srl .h s

/-- SRL L (R342). -/
def execSrl_l (s : State) : Host.Outcome State Fault Refusal :=
  cbRotate .srl .l s

/-- SRL (HL) (R342). -/
def execSrl_atHL (s : State) : Host.Outcome State Fault Refusal :=
  cbRotate .srl .atHL s

/-- SRL A (R342). -/
def execSrl_a (s : State) : Host.Outcome State Fault Refusal :=
  cbRotate .srl .a s

end Sys2Proof.Machine
end

