-- ==== Sys2Proof/Machine/BitOps.lean ====
section
/-! DEFINITION. CB bit operations (43 R343 to R345). -/

namespace Sys2Proof.Machine

/-- 43 R343: BIT b,r: one read, no write-back (90 C8). -/
def cbBit (b : Nat) (r : R8) (s : State) : Host.Outcome State Fault Refusal :=
  ((get8 r s).then fun v s => spend (if r = .atHL then 12 else 8) (setFlags (bitFlags v b s.cpu.f) s)).outcome

/-- 43 R344: RES b,r: no flags; the write-back happens even when the bit was 0. -/
def cbRes (b : Nat) (r : R8) (s : State) : Host.Outcome State Fault Refusal :=
  ((get8 r s).bind fun v s => (set8 r (res8 v b) s).then fun _ s => spend (cbCost r) s).outcome

/-- 43 R345: SET b,r: no flags; the write-back happens even when the bit was 1. -/
def cbSet (b : Nat) (r : R8) (s : State) : Host.Outcome State Fault Refusal :=
  ((get8 r s).bind fun v s => (set8 r (set8Bit v b) s).then fun _ s => spend (cbCost r) s).outcome

/-- BIT 0,B (R343). -/
def execBit_0_b (s : State) : Host.Outcome State Fault Refusal :=
  cbBit 0 .b s

/-- BIT 0,C (R343). -/
def execBit_0_c (s : State) : Host.Outcome State Fault Refusal :=
  cbBit 0 .c s

/-- BIT 0,D (R343). -/
def execBit_0_d (s : State) : Host.Outcome State Fault Refusal :=
  cbBit 0 .d s

/-- BIT 0,E (R343). -/
def execBit_0_e (s : State) : Host.Outcome State Fault Refusal :=
  cbBit 0 .e s

/-- BIT 0,H (R343). -/
def execBit_0_h (s : State) : Host.Outcome State Fault Refusal :=
  cbBit 0 .h s

/-- BIT 0,L (R343). -/
def execBit_0_l (s : State) : Host.Outcome State Fault Refusal :=
  cbBit 0 .l s

/-- BIT 0,(HL) (R343). -/
def execBit_0_atHL (s : State) : Host.Outcome State Fault Refusal :=
  cbBit 0 .atHL s

/-- BIT 0,A (R343). -/
def execBit_0_a (s : State) : Host.Outcome State Fault Refusal :=
  cbBit 0 .a s

/-- BIT 1,B (R343). -/
def execBit_1_b (s : State) : Host.Outcome State Fault Refusal :=
  cbBit 1 .b s

/-- BIT 1,C (R343). -/
def execBit_1_c (s : State) : Host.Outcome State Fault Refusal :=
  cbBit 1 .c s

/-- BIT 1,D (R343). -/
def execBit_1_d (s : State) : Host.Outcome State Fault Refusal :=
  cbBit 1 .d s

/-- BIT 1,E (R343). -/
def execBit_1_e (s : State) : Host.Outcome State Fault Refusal :=
  cbBit 1 .e s

/-- BIT 1,H (R343). -/
def execBit_1_h (s : State) : Host.Outcome State Fault Refusal :=
  cbBit 1 .h s

/-- BIT 1,L (R343). -/
def execBit_1_l (s : State) : Host.Outcome State Fault Refusal :=
  cbBit 1 .l s

/-- BIT 1,(HL) (R343). -/
def execBit_1_atHL (s : State) : Host.Outcome State Fault Refusal :=
  cbBit 1 .atHL s

/-- BIT 1,A (R343). -/
def execBit_1_a (s : State) : Host.Outcome State Fault Refusal :=
  cbBit 1 .a s

/-- BIT 2,B (R343). -/
def execBit_2_b (s : State) : Host.Outcome State Fault Refusal :=
  cbBit 2 .b s

/-- BIT 2,C (R343). -/
def execBit_2_c (s : State) : Host.Outcome State Fault Refusal :=
  cbBit 2 .c s

/-- BIT 2,D (R343). -/
def execBit_2_d (s : State) : Host.Outcome State Fault Refusal :=
  cbBit 2 .d s

/-- BIT 2,E (R343). -/
def execBit_2_e (s : State) : Host.Outcome State Fault Refusal :=
  cbBit 2 .e s

/-- BIT 2,H (R343). -/
def execBit_2_h (s : State) : Host.Outcome State Fault Refusal :=
  cbBit 2 .h s

/-- BIT 2,L (R343). -/
def execBit_2_l (s : State) : Host.Outcome State Fault Refusal :=
  cbBit 2 .l s

/-- BIT 2,(HL) (R343). -/
def execBit_2_atHL (s : State) : Host.Outcome State Fault Refusal :=
  cbBit 2 .atHL s

/-- BIT 2,A (R343). -/
def execBit_2_a (s : State) : Host.Outcome State Fault Refusal :=
  cbBit 2 .a s

/-- BIT 3,B (R343). -/
def execBit_3_b (s : State) : Host.Outcome State Fault Refusal :=
  cbBit 3 .b s

/-- BIT 3,C (R343). -/
def execBit_3_c (s : State) : Host.Outcome State Fault Refusal :=
  cbBit 3 .c s

/-- BIT 3,D (R343). -/
def execBit_3_d (s : State) : Host.Outcome State Fault Refusal :=
  cbBit 3 .d s

/-- BIT 3,E (R343). -/
def execBit_3_e (s : State) : Host.Outcome State Fault Refusal :=
  cbBit 3 .e s

/-- BIT 3,H (R343). -/
def execBit_3_h (s : State) : Host.Outcome State Fault Refusal :=
  cbBit 3 .h s

/-- BIT 3,L (R343). -/
def execBit_3_l (s : State) : Host.Outcome State Fault Refusal :=
  cbBit 3 .l s

/-- BIT 3,(HL) (R343). -/
def execBit_3_atHL (s : State) : Host.Outcome State Fault Refusal :=
  cbBit 3 .atHL s

/-- BIT 3,A (R343). -/
def execBit_3_a (s : State) : Host.Outcome State Fault Refusal :=
  cbBit 3 .a s

/-- BIT 4,B (R343). -/
def execBit_4_b (s : State) : Host.Outcome State Fault Refusal :=
  cbBit 4 .b s

/-- BIT 4,C (R343). -/
def execBit_4_c (s : State) : Host.Outcome State Fault Refusal :=
  cbBit 4 .c s

/-- BIT 4,D (R343). -/
def execBit_4_d (s : State) : Host.Outcome State Fault Refusal :=
  cbBit 4 .d s

/-- BIT 4,E (R343). -/
def execBit_4_e (s : State) : Host.Outcome State Fault Refusal :=
  cbBit 4 .e s

/-- BIT 4,H (R343). -/
def execBit_4_h (s : State) : Host.Outcome State Fault Refusal :=
  cbBit 4 .h s

/-- BIT 4,L (R343). -/
def execBit_4_l (s : State) : Host.Outcome State Fault Refusal :=
  cbBit 4 .l s

/-- BIT 4,(HL) (R343). -/
def execBit_4_atHL (s : State) : Host.Outcome State Fault Refusal :=
  cbBit 4 .atHL s

/-- BIT 4,A (R343). -/
def execBit_4_a (s : State) : Host.Outcome State Fault Refusal :=
  cbBit 4 .a s

/-- BIT 5,B (R343). -/
def execBit_5_b (s : State) : Host.Outcome State Fault Refusal :=
  cbBit 5 .b s

/-- BIT 5,C (R343). -/
def execBit_5_c (s : State) : Host.Outcome State Fault Refusal :=
  cbBit 5 .c s

/-- BIT 5,D (R343). -/
def execBit_5_d (s : State) : Host.Outcome State Fault Refusal :=
  cbBit 5 .d s

/-- BIT 5,E (R343). -/
def execBit_5_e (s : State) : Host.Outcome State Fault Refusal :=
  cbBit 5 .e s

/-- BIT 5,H (R343). -/
def execBit_5_h (s : State) : Host.Outcome State Fault Refusal :=
  cbBit 5 .h s

/-- BIT 5,L (R343). -/
def execBit_5_l (s : State) : Host.Outcome State Fault Refusal :=
  cbBit 5 .l s

/-- BIT 5,(HL) (R343). -/
def execBit_5_atHL (s : State) : Host.Outcome State Fault Refusal :=
  cbBit 5 .atHL s

/-- BIT 5,A (R343). -/
def execBit_5_a (s : State) : Host.Outcome State Fault Refusal :=
  cbBit 5 .a s

/-- BIT 6,B (R343). -/
def execBit_6_b (s : State) : Host.Outcome State Fault Refusal :=
  cbBit 6 .b s

/-- BIT 6,C (R343). -/
def execBit_6_c (s : State) : Host.Outcome State Fault Refusal :=
  cbBit 6 .c s

/-- BIT 6,D (R343). -/
def execBit_6_d (s : State) : Host.Outcome State Fault Refusal :=
  cbBit 6 .d s

/-- BIT 6,E (R343). -/
def execBit_6_e (s : State) : Host.Outcome State Fault Refusal :=
  cbBit 6 .e s

/-- BIT 6,H (R343). -/
def execBit_6_h (s : State) : Host.Outcome State Fault Refusal :=
  cbBit 6 .h s

/-- BIT 6,L (R343). -/
def execBit_6_l (s : State) : Host.Outcome State Fault Refusal :=
  cbBit 6 .l s

/-- BIT 6,(HL) (R343). -/
def execBit_6_atHL (s : State) : Host.Outcome State Fault Refusal :=
  cbBit 6 .atHL s

/-- BIT 6,A (R343). -/
def execBit_6_a (s : State) : Host.Outcome State Fault Refusal :=
  cbBit 6 .a s

/-- BIT 7,B (R343). -/
def execBit_7_b (s : State) : Host.Outcome State Fault Refusal :=
  cbBit 7 .b s

/-- BIT 7,C (R343). -/
def execBit_7_c (s : State) : Host.Outcome State Fault Refusal :=
  cbBit 7 .c s

/-- BIT 7,D (R343). -/
def execBit_7_d (s : State) : Host.Outcome State Fault Refusal :=
  cbBit 7 .d s

/-- BIT 7,E (R343). -/
def execBit_7_e (s : State) : Host.Outcome State Fault Refusal :=
  cbBit 7 .e s

/-- BIT 7,H (R343). -/
def execBit_7_h (s : State) : Host.Outcome State Fault Refusal :=
  cbBit 7 .h s

/-- BIT 7,L (R343). -/
def execBit_7_l (s : State) : Host.Outcome State Fault Refusal :=
  cbBit 7 .l s

/-- BIT 7,(HL) (R343). -/
def execBit_7_atHL (s : State) : Host.Outcome State Fault Refusal :=
  cbBit 7 .atHL s

/-- BIT 7,A (R343). -/
def execBit_7_a (s : State) : Host.Outcome State Fault Refusal :=
  cbBit 7 .a s

/-- RES 0,B (R344). -/
def execRes_0_b (s : State) : Host.Outcome State Fault Refusal :=
  cbRes 0 .b s

/-- RES 0,C (R344). -/
def execRes_0_c (s : State) : Host.Outcome State Fault Refusal :=
  cbRes 0 .c s

/-- RES 0,D (R344). -/
def execRes_0_d (s : State) : Host.Outcome State Fault Refusal :=
  cbRes 0 .d s

/-- RES 0,E (R344). -/
def execRes_0_e (s : State) : Host.Outcome State Fault Refusal :=
  cbRes 0 .e s

/-- RES 0,H (R344). -/
def execRes_0_h (s : State) : Host.Outcome State Fault Refusal :=
  cbRes 0 .h s

/-- RES 0,L (R344). -/
def execRes_0_l (s : State) : Host.Outcome State Fault Refusal :=
  cbRes 0 .l s

/-- RES 0,(HL) (R344). -/
def execRes_0_atHL (s : State) : Host.Outcome State Fault Refusal :=
  cbRes 0 .atHL s

/-- RES 0,A (R344). -/
def execRes_0_a (s : State) : Host.Outcome State Fault Refusal :=
  cbRes 0 .a s

/-- RES 1,B (R344). -/
def execRes_1_b (s : State) : Host.Outcome State Fault Refusal :=
  cbRes 1 .b s

/-- RES 1,C (R344). -/
def execRes_1_c (s : State) : Host.Outcome State Fault Refusal :=
  cbRes 1 .c s

/-- RES 1,D (R344). -/
def execRes_1_d (s : State) : Host.Outcome State Fault Refusal :=
  cbRes 1 .d s

/-- RES 1,E (R344). -/
def execRes_1_e (s : State) : Host.Outcome State Fault Refusal :=
  cbRes 1 .e s

/-- RES 1,H (R344). -/
def execRes_1_h (s : State) : Host.Outcome State Fault Refusal :=
  cbRes 1 .h s

/-- RES 1,L (R344). -/
def execRes_1_l (s : State) : Host.Outcome State Fault Refusal :=
  cbRes 1 .l s

/-- RES 1,(HL) (R344). -/
def execRes_1_atHL (s : State) : Host.Outcome State Fault Refusal :=
  cbRes 1 .atHL s

/-- RES 1,A (R344). -/
def execRes_1_a (s : State) : Host.Outcome State Fault Refusal :=
  cbRes 1 .a s

/-- RES 2,B (R344). -/
def execRes_2_b (s : State) : Host.Outcome State Fault Refusal :=
  cbRes 2 .b s

/-- RES 2,C (R344). -/
def execRes_2_c (s : State) : Host.Outcome State Fault Refusal :=
  cbRes 2 .c s

/-- RES 2,D (R344). -/
def execRes_2_d (s : State) : Host.Outcome State Fault Refusal :=
  cbRes 2 .d s

/-- RES 2,E (R344). -/
def execRes_2_e (s : State) : Host.Outcome State Fault Refusal :=
  cbRes 2 .e s

/-- RES 2,H (R344). -/
def execRes_2_h (s : State) : Host.Outcome State Fault Refusal :=
  cbRes 2 .h s

/-- RES 2,L (R344). -/
def execRes_2_l (s : State) : Host.Outcome State Fault Refusal :=
  cbRes 2 .l s

/-- RES 2,(HL) (R344). -/
def execRes_2_atHL (s : State) : Host.Outcome State Fault Refusal :=
  cbRes 2 .atHL s

/-- RES 2,A (R344). -/
def execRes_2_a (s : State) : Host.Outcome State Fault Refusal :=
  cbRes 2 .a s

/-- RES 3,B (R344). -/
def execRes_3_b (s : State) : Host.Outcome State Fault Refusal :=
  cbRes 3 .b s

/-- RES 3,C (R344). -/
def execRes_3_c (s : State) : Host.Outcome State Fault Refusal :=
  cbRes 3 .c s

/-- RES 3,D (R344). -/
def execRes_3_d (s : State) : Host.Outcome State Fault Refusal :=
  cbRes 3 .d s

/-- RES 3,E (R344). -/
def execRes_3_e (s : State) : Host.Outcome State Fault Refusal :=
  cbRes 3 .e s

/-- RES 3,H (R344). -/
def execRes_3_h (s : State) : Host.Outcome State Fault Refusal :=
  cbRes 3 .h s

/-- RES 3,L (R344). -/
def execRes_3_l (s : State) : Host.Outcome State Fault Refusal :=
  cbRes 3 .l s

/-- RES 3,(HL) (R344). -/
def execRes_3_atHL (s : State) : Host.Outcome State Fault Refusal :=
  cbRes 3 .atHL s

/-- RES 3,A (R344). -/
def execRes_3_a (s : State) : Host.Outcome State Fault Refusal :=
  cbRes 3 .a s

/-- RES 4,B (R344). -/
def execRes_4_b (s : State) : Host.Outcome State Fault Refusal :=
  cbRes 4 .b s

/-- RES 4,C (R344). -/
def execRes_4_c (s : State) : Host.Outcome State Fault Refusal :=
  cbRes 4 .c s

/-- RES 4,D (R344). -/
def execRes_4_d (s : State) : Host.Outcome State Fault Refusal :=
  cbRes 4 .d s

/-- RES 4,E (R344). -/
def execRes_4_e (s : State) : Host.Outcome State Fault Refusal :=
  cbRes 4 .e s

/-- RES 4,H (R344). -/
def execRes_4_h (s : State) : Host.Outcome State Fault Refusal :=
  cbRes 4 .h s

/-- RES 4,L (R344). -/
def execRes_4_l (s : State) : Host.Outcome State Fault Refusal :=
  cbRes 4 .l s

/-- RES 4,(HL) (R344). -/
def execRes_4_atHL (s : State) : Host.Outcome State Fault Refusal :=
  cbRes 4 .atHL s

/-- RES 4,A (R344). -/
def execRes_4_a (s : State) : Host.Outcome State Fault Refusal :=
  cbRes 4 .a s

/-- RES 5,B (R344). -/
def execRes_5_b (s : State) : Host.Outcome State Fault Refusal :=
  cbRes 5 .b s

/-- RES 5,C (R344). -/
def execRes_5_c (s : State) : Host.Outcome State Fault Refusal :=
  cbRes 5 .c s

/-- RES 5,D (R344). -/
def execRes_5_d (s : State) : Host.Outcome State Fault Refusal :=
  cbRes 5 .d s

/-- RES 5,E (R344). -/
def execRes_5_e (s : State) : Host.Outcome State Fault Refusal :=
  cbRes 5 .e s

/-- RES 5,H (R344). -/
def execRes_5_h (s : State) : Host.Outcome State Fault Refusal :=
  cbRes 5 .h s

/-- RES 5,L (R344). -/
def execRes_5_l (s : State) : Host.Outcome State Fault Refusal :=
  cbRes 5 .l s

/-- RES 5,(HL) (R344). -/
def execRes_5_atHL (s : State) : Host.Outcome State Fault Refusal :=
  cbRes 5 .atHL s

/-- RES 5,A (R344). -/
def execRes_5_a (s : State) : Host.Outcome State Fault Refusal :=
  cbRes 5 .a s

/-- RES 6,B (R344). -/
def execRes_6_b (s : State) : Host.Outcome State Fault Refusal :=
  cbRes 6 .b s

/-- RES 6,C (R344). -/
def execRes_6_c (s : State) : Host.Outcome State Fault Refusal :=
  cbRes 6 .c s

/-- RES 6,D (R344). -/
def execRes_6_d (s : State) : Host.Outcome State Fault Refusal :=
  cbRes 6 .d s

/-- RES 6,E (R344). -/
def execRes_6_e (s : State) : Host.Outcome State Fault Refusal :=
  cbRes 6 .e s

/-- RES 6,H (R344). -/
def execRes_6_h (s : State) : Host.Outcome State Fault Refusal :=
  cbRes 6 .h s

/-- RES 6,L (R344). -/
def execRes_6_l (s : State) : Host.Outcome State Fault Refusal :=
  cbRes 6 .l s

/-- RES 6,(HL) (R344). -/
def execRes_6_atHL (s : State) : Host.Outcome State Fault Refusal :=
  cbRes 6 .atHL s

/-- RES 6,A (R344). -/
def execRes_6_a (s : State) : Host.Outcome State Fault Refusal :=
  cbRes 6 .a s

/-- RES 7,B (R344). -/
def execRes_7_b (s : State) : Host.Outcome State Fault Refusal :=
  cbRes 7 .b s

/-- RES 7,C (R344). -/
def execRes_7_c (s : State) : Host.Outcome State Fault Refusal :=
  cbRes 7 .c s

/-- RES 7,D (R344). -/
def execRes_7_d (s : State) : Host.Outcome State Fault Refusal :=
  cbRes 7 .d s

/-- RES 7,E (R344). -/
def execRes_7_e (s : State) : Host.Outcome State Fault Refusal :=
  cbRes 7 .e s

/-- RES 7,H (R344). -/
def execRes_7_h (s : State) : Host.Outcome State Fault Refusal :=
  cbRes 7 .h s

/-- RES 7,L (R344). -/
def execRes_7_l (s : State) : Host.Outcome State Fault Refusal :=
  cbRes 7 .l s

/-- RES 7,(HL) (R344). -/
def execRes_7_atHL (s : State) : Host.Outcome State Fault Refusal :=
  cbRes 7 .atHL s

/-- RES 7,A (R344). -/
def execRes_7_a (s : State) : Host.Outcome State Fault Refusal :=
  cbRes 7 .a s

/-- SET 0,B (R345). -/
def execSet_0_b (s : State) : Host.Outcome State Fault Refusal :=
  cbSet 0 .b s

/-- SET 0,C (R345). -/
def execSet_0_c (s : State) : Host.Outcome State Fault Refusal :=
  cbSet 0 .c s

/-- SET 0,D (R345). -/
def execSet_0_d (s : State) : Host.Outcome State Fault Refusal :=
  cbSet 0 .d s

/-- SET 0,E (R345). -/
def execSet_0_e (s : State) : Host.Outcome State Fault Refusal :=
  cbSet 0 .e s

/-- SET 0,H (R345). -/
def execSet_0_h (s : State) : Host.Outcome State Fault Refusal :=
  cbSet 0 .h s

/-- SET 0,L (R345). -/
def execSet_0_l (s : State) : Host.Outcome State Fault Refusal :=
  cbSet 0 .l s

/-- SET 0,(HL) (R345). -/
def execSet_0_atHL (s : State) : Host.Outcome State Fault Refusal :=
  cbSet 0 .atHL s

/-- SET 0,A (R345). -/
def execSet_0_a (s : State) : Host.Outcome State Fault Refusal :=
  cbSet 0 .a s

/-- SET 1,B (R345). -/
def execSet_1_b (s : State) : Host.Outcome State Fault Refusal :=
  cbSet 1 .b s

/-- SET 1,C (R345). -/
def execSet_1_c (s : State) : Host.Outcome State Fault Refusal :=
  cbSet 1 .c s

/-- SET 1,D (R345). -/
def execSet_1_d (s : State) : Host.Outcome State Fault Refusal :=
  cbSet 1 .d s

/-- SET 1,E (R345). -/
def execSet_1_e (s : State) : Host.Outcome State Fault Refusal :=
  cbSet 1 .e s

/-- SET 1,H (R345). -/
def execSet_1_h (s : State) : Host.Outcome State Fault Refusal :=
  cbSet 1 .h s

/-- SET 1,L (R345). -/
def execSet_1_l (s : State) : Host.Outcome State Fault Refusal :=
  cbSet 1 .l s

/-- SET 1,(HL) (R345). -/
def execSet_1_atHL (s : State) : Host.Outcome State Fault Refusal :=
  cbSet 1 .atHL s

/-- SET 1,A (R345). -/
def execSet_1_a (s : State) : Host.Outcome State Fault Refusal :=
  cbSet 1 .a s

/-- SET 2,B (R345). -/
def execSet_2_b (s : State) : Host.Outcome State Fault Refusal :=
  cbSet 2 .b s

/-- SET 2,C (R345). -/
def execSet_2_c (s : State) : Host.Outcome State Fault Refusal :=
  cbSet 2 .c s

/-- SET 2,D (R345). -/
def execSet_2_d (s : State) : Host.Outcome State Fault Refusal :=
  cbSet 2 .d s

/-- SET 2,E (R345). -/
def execSet_2_e (s : State) : Host.Outcome State Fault Refusal :=
  cbSet 2 .e s

/-- SET 2,H (R345). -/
def execSet_2_h (s : State) : Host.Outcome State Fault Refusal :=
  cbSet 2 .h s

/-- SET 2,L (R345). -/
def execSet_2_l (s : State) : Host.Outcome State Fault Refusal :=
  cbSet 2 .l s

/-- SET 2,(HL) (R345). -/
def execSet_2_atHL (s : State) : Host.Outcome State Fault Refusal :=
  cbSet 2 .atHL s

/-- SET 2,A (R345). -/
def execSet_2_a (s : State) : Host.Outcome State Fault Refusal :=
  cbSet 2 .a s

/-- SET 3,B (R345). -/
def execSet_3_b (s : State) : Host.Outcome State Fault Refusal :=
  cbSet 3 .b s

/-- SET 3,C (R345). -/
def execSet_3_c (s : State) : Host.Outcome State Fault Refusal :=
  cbSet 3 .c s

/-- SET 3,D (R345). -/
def execSet_3_d (s : State) : Host.Outcome State Fault Refusal :=
  cbSet 3 .d s

/-- SET 3,E (R345). -/
def execSet_3_e (s : State) : Host.Outcome State Fault Refusal :=
  cbSet 3 .e s

/-- SET 3,H (R345). -/
def execSet_3_h (s : State) : Host.Outcome State Fault Refusal :=
  cbSet 3 .h s

/-- SET 3,L (R345). -/
def execSet_3_l (s : State) : Host.Outcome State Fault Refusal :=
  cbSet 3 .l s

/-- SET 3,(HL) (R345). -/
def execSet_3_atHL (s : State) : Host.Outcome State Fault Refusal :=
  cbSet 3 .atHL s

/-- SET 3,A (R345). -/
def execSet_3_a (s : State) : Host.Outcome State Fault Refusal :=
  cbSet 3 .a s

/-- SET 4,B (R345). -/
def execSet_4_b (s : State) : Host.Outcome State Fault Refusal :=
  cbSet 4 .b s

/-- SET 4,C (R345). -/
def execSet_4_c (s : State) : Host.Outcome State Fault Refusal :=
  cbSet 4 .c s

/-- SET 4,D (R345). -/
def execSet_4_d (s : State) : Host.Outcome State Fault Refusal :=
  cbSet 4 .d s

/-- SET 4,E (R345). -/
def execSet_4_e (s : State) : Host.Outcome State Fault Refusal :=
  cbSet 4 .e s

/-- SET 4,H (R345). -/
def execSet_4_h (s : State) : Host.Outcome State Fault Refusal :=
  cbSet 4 .h s

/-- SET 4,L (R345). -/
def execSet_4_l (s : State) : Host.Outcome State Fault Refusal :=
  cbSet 4 .l s

/-- SET 4,(HL) (R345). -/
def execSet_4_atHL (s : State) : Host.Outcome State Fault Refusal :=
  cbSet 4 .atHL s

/-- SET 4,A (R345). -/
def execSet_4_a (s : State) : Host.Outcome State Fault Refusal :=
  cbSet 4 .a s

/-- SET 5,B (R345). -/
def execSet_5_b (s : State) : Host.Outcome State Fault Refusal :=
  cbSet 5 .b s

/-- SET 5,C (R345). -/
def execSet_5_c (s : State) : Host.Outcome State Fault Refusal :=
  cbSet 5 .c s

/-- SET 5,D (R345). -/
def execSet_5_d (s : State) : Host.Outcome State Fault Refusal :=
  cbSet 5 .d s

/-- SET 5,E (R345). -/
def execSet_5_e (s : State) : Host.Outcome State Fault Refusal :=
  cbSet 5 .e s

/-- SET 5,H (R345). -/
def execSet_5_h (s : State) : Host.Outcome State Fault Refusal :=
  cbSet 5 .h s

/-- SET 5,L (R345). -/
def execSet_5_l (s : State) : Host.Outcome State Fault Refusal :=
  cbSet 5 .l s

/-- SET 5,(HL) (R345). -/
def execSet_5_atHL (s : State) : Host.Outcome State Fault Refusal :=
  cbSet 5 .atHL s

/-- SET 5,A (R345). -/
def execSet_5_a (s : State) : Host.Outcome State Fault Refusal :=
  cbSet 5 .a s

/-- SET 6,B (R345). -/
def execSet_6_b (s : State) : Host.Outcome State Fault Refusal :=
  cbSet 6 .b s

/-- SET 6,C (R345). -/
def execSet_6_c (s : State) : Host.Outcome State Fault Refusal :=
  cbSet 6 .c s

/-- SET 6,D (R345). -/
def execSet_6_d (s : State) : Host.Outcome State Fault Refusal :=
  cbSet 6 .d s

/-- SET 6,E (R345). -/
def execSet_6_e (s : State) : Host.Outcome State Fault Refusal :=
  cbSet 6 .e s

/-- SET 6,H (R345). -/
def execSet_6_h (s : State) : Host.Outcome State Fault Refusal :=
  cbSet 6 .h s

/-- SET 6,L (R345). -/
def execSet_6_l (s : State) : Host.Outcome State Fault Refusal :=
  cbSet 6 .l s

/-- SET 6,(HL) (R345). -/
def execSet_6_atHL (s : State) : Host.Outcome State Fault Refusal :=
  cbSet 6 .atHL s

/-- SET 6,A (R345). -/
def execSet_6_a (s : State) : Host.Outcome State Fault Refusal :=
  cbSet 6 .a s

/-- SET 7,B (R345). -/
def execSet_7_b (s : State) : Host.Outcome State Fault Refusal :=
  cbSet 7 .b s

/-- SET 7,C (R345). -/
def execSet_7_c (s : State) : Host.Outcome State Fault Refusal :=
  cbSet 7 .c s

/-- SET 7,D (R345). -/
def execSet_7_d (s : State) : Host.Outcome State Fault Refusal :=
  cbSet 7 .d s

/-- SET 7,E (R345). -/
def execSet_7_e (s : State) : Host.Outcome State Fault Refusal :=
  cbSet 7 .e s

/-- SET 7,H (R345). -/
def execSet_7_h (s : State) : Host.Outcome State Fault Refusal :=
  cbSet 7 .h s

/-- SET 7,L (R345). -/
def execSet_7_l (s : State) : Host.Outcome State Fault Refusal :=
  cbSet 7 .l s

/-- SET 7,(HL) (R345). -/
def execSet_7_atHL (s : State) : Host.Outcome State Fault Refusal :=
  cbSet 7 .atHL s

/-- SET 7,A (R345). -/
def execSet_7_a (s : State) : Host.Outcome State Fault Refusal :=
  cbSet 7 .a s

end Sys2Proof.Machine
end

