-- ==== Sys2Proof/Machine/System.lean ====
section
/-! DEFINITION. System and control instructions (45 R400 to R406): NOP, HALT, STOP, DI, EI, the illegal opcodes, the CB prefix. -/

namespace Sys2Proof.Machine

/-- 45 R405: the illegal opcodes raise IllegalOpcode(o); PC is past the byte and nothing else changes. -/
def illegal (o : Byte) (s : State) : Host.Outcome State Fault Refusal :=
  (raise (α := Unit) (.illegalOpcode o) s).outcome

/-- 45 R402: STOP in CGB mode with the switch armed toggles the speed. -/
def switchSpeed (s : State) : State := { s with doubleSpeed := !s.doubleSpeed, speedArmed := false }

/-- 45 R406, 30 R175: the instruction the prefix selects by the byte after it, by the fields of that byte. -/
def cbSelected (o : Byte) (s : State) : Host.Outcome State Fault Refusal :=
  let x := o.extractLsb' 6 2
  let y := o.extractLsb' 3 3
  let r := r8OfCode (o.extractLsb' 0 3)
  if x = 0 then cbRotate (rotOfCode y) r s
  else if x = 1 then cbBit y.toNat r s
  else if x = 2 then cbRes y.toNat r s
  else cbSet y.toNat r s

/-- NOP (R400). -/
def execNop (s : State) : Host.Outcome State Fault Refusal :=
  .next (spend 4 s)

/-- HALT (R401). -/
def execHalt (s : State) : Host.Outcome State Fault Refusal :=
  .next (spend 4 { s with cpu.halted := true })

/-- DI (R403). -/
def execDi (s : State) : Host.Outcome State Fault Refusal :=
  .next (spend 4 { s with cpu.ime := false, cpu.enabling := false })

/-- EI (R404). -/
def execEi (s : State) : Host.Outcome State Fault Refusal :=
  .next (spend 4 { s with cpu.enabling := true })

/-- PREFIX CB (R406). -/
def execPrefix_cb (o : Byte) (s : State) : Host.Outcome State Fault Refusal :=
  cbSelected o s

/-- STOP (R402): the byte x is ignored (30 R179). Any STOP but an armed CGB speed switch raises StopUnmodelled. -/
def execStop (_x : Byte) (s : State) : Host.Outcome State Fault Refusal :=
  if s.cgbMode && s.speedArmed then .next (spend 4 (switchSpeed s))
  else (raise (α := Unit) .stopUnmodelled s).outcome

/-- ILLEGAL 0xD3 (R405). -/
def execIllegal_d3 (s : State) : Host.Outcome State Fault Refusal :=
  illegal 0xD3 s

/-- ILLEGAL 0xDB (R405). -/
def execIllegal_db (s : State) : Host.Outcome State Fault Refusal :=
  illegal 0xDB s

/-- ILLEGAL 0xDD (R405). -/
def execIllegal_dd (s : State) : Host.Outcome State Fault Refusal :=
  illegal 0xDD s

/-- ILLEGAL 0xE3 (R405). -/
def execIllegal_e3 (s : State) : Host.Outcome State Fault Refusal :=
  illegal 0xE3 s

/-- ILLEGAL 0xE4 (R405). -/
def execIllegal_e4 (s : State) : Host.Outcome State Fault Refusal :=
  illegal 0xE4 s

/-- ILLEGAL 0xEB (R405). -/
def execIllegal_eb (s : State) : Host.Outcome State Fault Refusal :=
  illegal 0xEB s

/-- ILLEGAL 0xEC (R405). -/
def execIllegal_ec (s : State) : Host.Outcome State Fault Refusal :=
  illegal 0xEC s

/-- ILLEGAL 0xED (R405). -/
def execIllegal_ed (s : State) : Host.Outcome State Fault Refusal :=
  illegal 0xED s

/-- ILLEGAL 0xF4 (R405). -/
def execIllegal_f4 (s : State) : Host.Outcome State Fault Refusal :=
  illegal 0xF4 s

/-- ILLEGAL 0xFC (R405). -/
def execIllegal_fc (s : State) : Host.Outcome State Fault Refusal :=
  illegal 0xFC s

/-- ILLEGAL 0xFD (R405). -/
def execIllegal_fd (s : State) : Host.Outcome State Fault Refusal :=
  illegal 0xFD s

end Sys2Proof.Machine
end

