-- ==== Sys2Proof/Machine/Timers.lean ====
section
/-! DEFINITION. The divider and the timer (60 R520 to R523). Each `while` of the rules runs as often as the period
fits into the accumulated cycles (log 16). -/

namespace Sys2Proof.Machine

/-- 60 R522: the period TAC[1:0] selects. -/
def timerPeriod (tac : BitVec 3) : Nat :=
  if tac.extractLsb' 0 2 = 0 then 1024
  else if tac.extractLsb' 0 2 = 1 then 16
  else if tac.extractLsb' 0 2 = 2 then 64
  else 256

/-- 60 R520: the divider, over c cycles. -/
def divStep (c : Nat) (t : Timer) : Timer :=
  { t with
    divAcc := (t.divAcc + c) % Config.divPeriod
    div := t.div + BitVec.ofNat 8 ((t.divAcc + c) / Config.divPeriod) }

/-- 60 R522: one increment of TIMA; from 0xFF it reloads from TMA and requests the timer interrupt. -/
def timaTick (s : State) : State :=
  if s.timer.tima = 0xFF then request 2 { s with timer.tima := s.timer.tma }
  else { s with timer.tima := s.timer.tima + 1 }

/-- 60 R522: n increments of TIMA. -/
def timaTicks : Nat → State → State
  | 0, s => s
  | n + 1, s => timaTicks n (timaTick s)

/-- 60 R522: the timer, over c cycles; while TAC[2] = 0 the counter keeps its value (D20). -/
def timaStep (c : Nat) (s : State) : State :=
  if s.timer.tac.getLsbD 2 then
    let p := timerPeriod s.timer.tac
    timaTicks ((s.timer.timerCounter + c) / p) { s with timer.timerCounter := (s.timer.timerCounter + c) % p }
  else s

/-- 60 R501, R520, R522: `TimerStep(c)`: the divider, then the timer. -/
def timerStep (c : Nat) (s : State) : State := timaStep c { s with timer := divStep c s.timer }

end Sys2Proof.Machine
end

