-- ==== Sys2Proof/Machine/Render.lean ====
section
/-! DEFINITION. Drawing one line (61 R610 to R622): tiles, background, window, sprites, priorities and colours, as
functions of the PPU's state. A pixel is kept as its shade or 15-bit colour (log 10). -/

namespace Sys2Proof.Machine

/-- A background or window pixel (61 R612): colour index, CGB palette, BG-over-sprite attribute. -/
abbrev BgPixel := BitVec 2 × BitVec 3 × Bool

/-- 61 R611: `{hi[7-k], lo[7-k]}` of a tile row's two bytes. -/
def tileIndex (lo hi : Byte) (k : Nat) : BitVec 2 := bit1 (bitOf hi (7 - k)) ++ bit1 (bitOf lo (7 - k))

/-- 61 R611: the VRAM offset of BG and window tile n, unsigned from 0x8000 or signed from 0x9000 by LCDC[4]. -/
def tileBase (lcdc n : Byte) : Nat :=
  if bitOf lcdc 4 then n.toNat * 16 else ((0x1000 : Int) + n.toInt * 16).toNat

/-- Mirror a position within `size` when the flip bit is set. -/
def flip (on : Bool) (size k : Nat) : Nat := if on then size - 1 - k else k

/-- 61 R612: `TilePixel(mapOff, col, row)`; in CGB mode bank 1 holds the attributes. -/
def tilePixel (cgb : Bool) (p : Ppu) (mapOff col row : Nat) : BgPixel :=
  let n := p.vram.get mapOff
  let attr : Byte := if cgb then p.vram.get (0x2000 + mapOff) else 0
  let row := flip (bitOf attr 6) 8 row
  let col := flip (bitOf attr 5) 8 col
  let at0 := (if bitOf attr 3 then 0x2000 else 0) + tileBase p.lcdc n + 2 * row
  (tileIndex (p.vram.get at0) (p.vram.get (at0 + 1)) col, attr.extractLsb' 0 3, bitOf attr 7)

/-- 61 R612: the VRAM offset of a tile map by its LCDC bit. -/
def mapBase (high : Bool) : Nat := if high then 0x1C00 else 0x1800

/-- 61 R612: DMG mode with LCDC[0] = 0: background and window blank. -/
def bgBlank (cgb : Bool) (p : Ppu) : Bool := !cgb && !bitOf p.lcdc 0

/-- 61 R613: whether the window covers pixel (x, ly). -/
def windowCovers (cgb : Bool) (p : Ppu) (x ly : Nat) : Bool :=
  bitOf p.lcdc 5 && decide (p.wy.toNat ≤ ly) && decide (p.wx.toNat ≤ x + 7) && !bgBlank cgb p

/-- 61 R612: the background pixel. -/
def bgPixel (cgb : Bool) (p : Ppu) (x ly : Nat) : BgPixel :=
  let bx := (x + p.scx.toNat) % 256
  let by' := (ly + p.scy.toNat) % 256
  tilePixel cgb p (mapBase (bitOf p.lcdc 3) + by' / 8 * 32 + bx / 8) (bx % 8) (by' % 8)

/-- 61 R613: the window pixel; its line is `ly - WY` (D41). -/
def windowPixel (cgb : Bool) (p : Ppu) (x ly : Nat) : BgPixel :=
  let wx := x + 7 - p.wx.toNat
  let wy := ly - p.wy.toNat
  tilePixel cgb p (mapBase (bitOf p.lcdc 6) + wy / 8 * 32 + wx / 8) (wx % 8) (wy % 8)

/-- 61 R612, R613: `BgWindowPixel(x, ly)`. -/
def bgWindowPixel (cgb : Bool) (p : Ppu) (x ly : Nat) : BgPixel :=
  if bgBlank cgb p then (0, 0, false)
  else if windowCovers cgb p x ly then windowPixel cgb p x ly
  else bgPixel cgb p x ly

/-- 61 R620: the shade a DMG palette register gives a colour index. -/
def shadeOf (pal : Byte) (idx : BitVec 2) : BitVec 2 := (pal >>> (2 * idx.toNat)).extractLsb' 0 2

/-- 61 R621: `CgbColour(mem, p, c)`, the 15 bits before the colour table. -/
def cgbColour (mem : Memory) (pal : BitVec 3) (c : BitVec 2) : BitVec 15 :=
  let i := 8 * pal.toNat + 2 * c.toNat
  (mem.get (i + 1)).extractLsb' 0 7 ++ mem.get i

/-- 61 R612, R620, R621: `BgColour(idx, pal)`; a blank background is shade 0 whatever BGP (log 17). -/
def bgColour (cgb : Bool) (p : Ppu) (idx : BitVec 2) (pal : BitVec 3) : Pixel :=
  if cgb then .colour (cgbColour p.bgPal pal idx)
  else if bgBlank cgb p then .shade 0
  else .shade (shadeOf p.bgp idx)

/-- 61 R615: an OAM entry. -/
structure Sprite where
  y : Byte
  x : Byte
  tile : Byte
  flags : Byte
  deriving DecidableEq, Repr

/-- 61 R615: entry i is at OAM offset 4i. -/
def spriteAt (p : Ppu) (i : Nat) : Sprite :=
  { y := p.oam.get (4 * i), x := p.oam.get (4 * i + 1), tile := p.oam.get (4 * i + 2), flags := p.oam.get (4 * i + 3) }

/-- 61 R615: the sprite height by LCDC[2]. -/
def spriteHeight (lcdc : Byte) : Nat := if bitOf lcdc 2 then 16 else 8

/-- 61 R617: whether a sprite's lines cover ly: `top <= ly < top + h` with top = byte0 - 16. -/
def spriteCovers (lcdc : Byte) (ly : Nat) (s : Sprite) : Bool :=
  decide (s.y.toNat ≤ ly + 16) && decide (ly + 16 < s.y.toNat + spriteHeight lcdc)

/-- 61 R618: put a sprite after those whose left column is not greater. -/
def insertByX (s : Sprite) : List Sprite → List Sprite
  | [] => [s]
  | t :: ts => if s.x.toNat < t.x.toNat then s :: t :: ts else t :: insertByX s ts

/-- 61 R618: the DMG order: by left column, equal columns by OAM index (the list's order). -/
def sortByX : List Sprite → List Sprite → List Sprite
  | [], done => done
  | s :: ss, done => sortByX ss (insertByX s done)

/-- 61 R617, R618: `SelectSprites(ly)`, the first 10 entries covering the line, in priority order. -/
def selectSprites (cgb : Bool) (p : Ppu) (ly : Nat) : List Sprite :=
  let kept := (((List.range 40).map (spriteAt p)).filter (spriteCovers p.lcdc ly)).take 10
  if cgb then kept else sortByX kept []

/-- 61 R615: `SpritePixel(s, x, ly)`; 0 is transparent. -/
def spritePixel (cgb : Bool) (p : Ppu) (s : Sprite) (x ly : Nat) : BitVec 2 :=
  if x + 8 < s.x.toNat ∨ 7 < x + 8 - s.x.toNat then 0
  else
    let h := spriteHeight p.lcdc
    let n := if h = 16 then s.tile &&& 0xFE else s.tile
    let row := flip (bitOf s.flags 6) h (ly + 16 - s.y.toNat)
    let col := flip (bitOf s.flags 5) 8 (x + 8 - s.x.toNat)
    let at0 := (if cgb && bitOf s.flags 3 then 0x2000 else 0) + n.toNat * 16 + 2 * row
    tileIndex (p.vram.get at0) (p.vram.get (at0 + 1)) col

/-- 61 R619: `BgWins(s, x)`, from the sprite's flags and the background pixel's index and attribute. -/
def bgWins (cgb : Bool) (p : Ppu) (s : Sprite) (idx : BitVec 2) (prio : Bool) : Bool :=
  if cgb then bitOf p.lcdc 0 && (prio || bitOf s.flags 7) && decide (idx ≠ 0)
  else bitOf s.flags 7 && decide (idx ≠ 0)

/-- 61 R620, R621: `ObjColour(s, oidx)`. -/
def objColour (cgb : Bool) (p : Ppu) (s : Sprite) (oidx : BitVec 2) : Pixel :=
  if cgb then .colour (cgbColour p.objPal (s.flags.extractLsb' 0 3) oidx)
  else .shade (shadeOf (if bitOf s.flags 4 then p.obp1 else p.obp0) oidx)

/-- 61 R610: the first sprite of the list that is opaque at (x, ly), with its colour index. -/
def firstOpaque (cgb : Bool) (p : Ppu) (x ly : Nat) : List Sprite → Option (Sprite × BitVec 2)
  | [] => none
  | s :: ss =>
    if spritePixel cgb p s x ly = 0 then firstOpaque cgb p x ly ss else some (s, spritePixel cgb p s x ly)

/-- 61 R610: the pixel at x of a line, from the background pixel and the line's sprites. -/
def composePixel (cgb : Bool) (p : Ppu) (ly : Nat) (sprites : List Sprite) (x : Nat) : Pixel :=
  let b := bgWindowPixel cgb p x ly
  match firstOpaque cgb p x ly sprites with
  | none => bgColour cgb p b.1 b.2.1
  | some (s, o) => if bgWins cgb p s b.1 b.2.2 then bgColour cgb p b.1 b.2.1 else objColour cgb p s o

/-- The sprites of a line: none while LCDC[1] = 0 (61 R610). -/
def lineSprites (cgb : Bool) (p : Ppu) (ly : Nat) : List Sprite :=
  if bitOf p.lcdc 1 then selectSprites cgb p ly else []

/-- Put a row into a frame buffer, keeping the row numbers rising (10 R64). -/
def Frame.setRow : Frame → Nat → List Pixel → Frame
  | [], y, row => [(y, row)]
  | (k, r) :: t, y, row =>
    if y < k then (y, row) :: (k, r) :: t
    else if y = k then (y, row) :: t
    else (k, r) :: Frame.setRow t y row

/-- Row y of a frame buffer; a row not yet drawn is all black (10 R64). -/
def Frame.row : Frame → Nat → List Pixel
  | [], _ => List.replicate Config.screenW .black
  | (k, r) :: t, y => if y = k then r else Frame.row t y

/-- 61 R610: `RenderLine(ly)`. -/
def renderLine (cgb : Bool) (ly : Nat) (p : Ppu) : Ppu :=
  let xs := List.range Config.screenW
  { p with
    bgIndex := xs.map fun x => (bgWindowPixel cgb p x ly).1
    bgAttrPrio := xs.map fun x => (bgWindowPixel cgb p x ly).2.2
    screen := p.screen.setRow ly (xs.map (composePixel cgb p ly (lineSprites cgb p ly))) }

/-- 61 R620, R621: a pixel's RGB8 value; the shades and the colour table are OPEN (log 10). -/
def Pixel.rgb : Pixel → Byte × Byte × Byte
  | .black => (0, 0, 0)
  | .shade s => Config.dmgShades s
  | .colour v =>
    (Config.colorLUT (v.extractLsb' 0 5), Config.colorLUT (v.extractLsb' 5 5), Config.colorLUT (v.extractLsb' 10 5))

end Sys2Proof.Machine
end

