-- ==== Sys2Proof/Machine/Video.lean ====
section
/-! DEFINITION. The PPU's step (61 R600 to R604, R616): line counter, modes, STAT and V-blank requests, the line
drawn at mode 3 entry, the H-blank DMA block. `spd` is the speed factor at the start of the step (70 R814). -/

namespace Sys2Proof.Machine

/-- 10 R31: the speed factor. -/
def spdOf (s : State) : Nat := if s.doubleSpeed then 2 else 1

/-- 61 R602: what a PPU step does while LCDC[7] = 0. -/
def lcdOff (p : Ppu) : Ppu := { p with ly := 0, dot := 0, mode := 0 }

/-- 61 R603: the end of a line; entering line 144 requests V-blank and publishes the frame (R616). -/
def nextLine (s : State) : State :=
  let ly := if s.ppu.ly + 1 = 154 then 0 else s.ppu.ly + 1
  let s := { s with ppu.ly := ly }
  if ly = 144 then request 0 { s with ppu.prepared := s.ppu.screen } else s

/-- 61 R603: n line ends. -/
def nextLines : Nat → State → State
  | 0, s => s
  | n + 1, s => nextLines n (nextLine s)

/-- 61 R601, R603: the mode of a position. -/
def modeAt (spd : Nat) (ly : Byte) (dot : Nat) : BitVec 2 :=
  if 144 ≤ ly then 1
  else if dot < Config.oamScanCycles * spd then 2
  else if dot < Config.drawCycles * spd then 3
  else 0

/-- 61 R603, 10 R49: whether STAT requests on entering mode m. -/
def statSelects (p : Ppu) (m : BitVec 2) : Bool :=
  (decide (m = 0) && p.statSel.getLsbD 0) || (decide (m = 1) && p.statSel.getLsbD 1) ||
    (decide (m = 2) && p.statSel.getLsbD 2)

/-- 61 R603: entering a new mode: the line at mode 3, the HDMA block at mode 0, the STAT request, then the mode. -/
def enterMode (m : BitVec 2) (s : State) : Res Unit :=
  let s := if m = 3 then { s with ppu := renderLine s.cgbMode s.ppu.ly.toNat s.ppu } else s
  (if m = 0 then hdmaHblankBlock s else .ok () s).then fun _ s =>
    let s := if statSelects s.ppu m then request 1 s else s
    { s with ppu.mode := m }

/-- 61 R603: the LY = LYC comparison, its edge and its request. -/
def compareLyc (s : State) : State :=
  let coin := decide (s.ppu.ly = s.ppu.lyc)
  let s := if coin && !s.ppu.prevCoin && s.ppu.statSel.getLsbD 3 then request 1 s else s
  { s with ppu.prevCoin := coin }

/-- 61 R603: the counters of a PPU step, each line end as often as a line fits into the cycles (log 16). -/
def advanceDot (spd c : Nat) (s : State) : State :=
  let line := Config.lineCycles * spd
  nextLines ((s.ppu.dot + c) / line) { s with ppu.dot := (s.ppu.dot + c) % line }

/-- 61 R602, R603: `PpuStep(c)`. -/
def ppuStep (spd c : Nat) (s : State) : Res Unit :=
  if bitOf s.ppu.lcdc 7 then
    let s := advanceDot spd c s
    let m := modeAt spd s.ppu.ly s.ppu.dot
    (if m ≠ s.ppu.mode then enterMode m s else .ok () s).then fun _ s => compareLyc s
  else .ok () { s with ppu := lcdOff s.ppu }

end Sys2Proof.Machine
end

