-- ==== Sys2Proof/Machine/Engine.lean ====
section
/-! DEFINITION. The engine step around an instruction (60 R501, R502, R513 to R516, R545): fetching, the interrupt
service, and what follows the instruction in its step. -/

namespace Sys2Proof.Machine

/-- 60 R511: the pending enabled interrupts, `IF & IE & 0x1F`. -/
def pending (s : State) : BitVec 5 := s.ifr &&& s.ie.extractLsb' 0 5

/-- 60 R514, R517: the lowest set bit (4 when no lower bit is set). -/
def lowestBit (p : BitVec 5) : Nat :=
  if p.getLsbD 0 then 0 else if p.getLsbD 1 then 1 else if p.getLsbD 2 then 2 else if p.getLsbD 3 then 3 else 4

/-- 60 R513, R514, R516: `InterruptService()`, answering the cycles it charges to the frame budget. -/
def interruptService (s : State) : Res Nat :=
  if s.cpu.enabling then .ok 0 { s with cpu.ime := true, cpu.enabling := false }
  else if pending s = 0 then .ok 0 s
  else if s.cpu.ime then (takeInterrupt (lowestBit (pending s)) s).bind fun _ s => .ok Config.intCost s
  else if s.cpu.halted then .ok Config.unhaltCost { s with cpu.halted := false }
  else .ok 0 s

/-- 60 R501: what follows the instruction (or the halted idle) in a step: PpuStep(c), TimerStep(c), the interrupt
service; c is `cost` and `spd` the speed factor at the start of the step (70 R814). The step returns c + s, kept in
`charge` (log 8). -/
def finishStep (spd : Nat) (s : State) : Res Unit :=
  (ppuStep spd s.cost s).bind fun _ t =>
    (interruptService (timerStep s.cost t)).then fun x u => { u with charge := s.cost + x }

/-- 60 R501, R545: the rest of the step after exec. An instruction that raised a fault ends the step. -/
def afterExec (spd : Nat) (o : Host.Outcome State Fault Refusal) : Host.Outcome State Fault Refusal :=
  match o with
  | .next t => if t.fault.isSome then .next t else (finishStep spd t).outcome
  | .fault r => .fault r
  | .refused r => .refused r

/-- The model's own fields at the start of a step (log 8). -/
def beginStep (s : State) : State := { s with cost := 0, charge := 0 }

/-- 30 R176, R178: fetch one instruction, the opcode first, then its operand bytes in address order. -/
def fetchInstr (s : State) : Res Instr :=
  (fetch8 s).bind fun o s =>
    if instrLength o = 1 then .ok (decodeBytes o 0 0) s
    else
      (fetch8 s).bind fun lo s =>
        if instrLength o = 2 then .ok (decodeBytes o lo 0) s
        else (fetch8 s).bind fun hi s => .ok (decodeBytes o lo hi) s

/-- 60 R501: `Step()` with its instruction executor. A faulted state takes no step (60 R545); a halted one executes
nothing (60 R502). -/
def runStep (run : Instr → State → Host.Outcome State Fault Refusal) (s : State) :
    Host.Outcome State Fault Refusal :=
  match s.fault with
  | some r => .fault r
  | none =>
    if s.cpu.halted then (finishStep (spdOf s) (spend Config.haltStepCost (beginStep s))).outcome
    else
      match fetchInstr (beginStep s) with
      | .ok i t => afterExec (spdOf s) (run i t)
      | .stop r t => .next (recordFault r t)

/-- Put a byte into the storage behind an address, as loading a program from outside does: ROM is written (and made
long enough), RAM is written, anything else is left (log 4). -/
def placeByte (a : Word) (v : Byte) (s : State) : State :=
  let n := a.toNat
  if n < 0x8000 then
    { s with cart.rom := s.cart.rom.set (romIndex s.cart n) v,
             cart.romLength := max s.cart.romLength (romIndex s.cart n + 1) }
  else if n < 0xA000 then { s with ppu.vram := s.ppu.vram.set (vramIndex s n) v }
  else if n < 0xC000 then
    match ramTarget s.cart n with
    | .ram i => { s with cart.ram := s.cart.ram.set i v }
    | _ => s
  else if n < 0xE000 then { s with wram := s.wram.set (wramIndex s n) v }
  else if n < 0xFE00 then { s with wram := s.wram.set (wramIndex s (n - 0x2000)) v }
  else if n < 0xFEA0 then { s with ppu.oam := s.ppu.oam.set (n - 0xFE00) v }
  else if n < 0xFF80 then s
  else if n < 0xFFFF then { s with hram := s.hram.set (n - 0xFF80) v }
  else s

/-- Put bytes at consecutive addresses (PC wraps, 10 R25). -/
def placeBytes : Word → List Byte → State → State
  | _, [], s => s
  | a, v :: t, s => placeBytes (a + 1) t (placeByte a v s)

/-- A state whose next step fetches at PC: not halted, no fault recorded. -/
def readyToFetch (s : State) : State := { s with cpu.halted := false, fault := none }

end Sys2Proof.Machine
end

