-- ==== Sys2Proof/Machine/Step.lean ====
section
/-! DEFINITION. The step (60 R501) and the placing of one instruction where it fetches. -/

namespace Sys2Proof.Machine

/-- 60 R501: one `Step()`. -/
def step (s : State) : Host.Outcome State Fault Refusal := runStep exec s

/-- `s` with one instruction, its word numbered as the opcode table numbers it, stored at PC (log 4, log 19). -/
def State.withFetchWord (s : State) (nbits w : Nat) : State :=
  readyToFetch (placeBytes s.cpu.pc (tableBytes nbits w) s)

end Sys2Proof.Machine
end

