-- ==== Sys2Proof/Machine/HostOps.lean ====
section
/-! DEFINITION. The host's operations (60 R530, R532, R540 to R544, R560, 70 R800) and the APU sampler's pulls
(62 R720), each a function of the state that acts between steps (20 R145; log 14). -/

namespace Sys2Proof.Machine

/-- The buttons (10 R66), in the order of the bits of `inputMask`. -/
inductive Button where
  | a | b | select | start | right | left | up | down
  deriving DecidableEq, Repr

/-- 10 R66: the button's bit of `inputMask`. -/
def Button.bit : Button → Nat
  | .a => 0
  | .b => 1
  | .select => 2
  | .start => 3
  | .right => 4
  | .left => 5
  | .up => 6
  | .down => 7

/-- 60 R530: `pressButton(b)`: the mask bit is cleared and the joypad interrupt requested, on every press (D23). -/
def pressButton (btn : Button) (s : State) : State :=
  request 4 { s with inputMask := s.inputMask &&& ~~~((1 : Byte) <<< btn.bit) }

/-- 60 R532: `releaseButton(b)`: the mask bit is set; no request. -/
def releaseButton (btn : Button) (s : State) : State :=
  { s with inputMask := s.inputMask ||| ((1 : Byte) <<< btn.bit) }

/-- 60 R540: the frame budget at the current speed. -/
def frameBudget (s : State) : Nat := Config.cyclesPerFrame * spdOf s

/-- 60 R540: the loop of `update()`, `spent` the cycles so far; the bound is never reached (log 16). -/
def updateLoop : Nat → Nat → State → Nat × State
  | 0, spent, s => (spent, s)
  | k + 1, spent, s =>
    if s.fault = none ∧ spent + s.frameCarry < frameBudget s then
      match step s with
      | .next t => updateLoop k (spent + t.charge) t
      | .fault _ => (spent, s)
      | .refused _ => (spent, s)
    else (spent, s)

/-- 60 R540: `update()`: the cycles spent in this call (D54) and the state after it. -/
def update (s : State) : Nat × State :=
  let r := updateLoop (2 * Config.cyclesPerFrame) 0 s
  if r.2.fault = none then (r.1, { r.2 with frameCarry := r.1 + r.2.frameCarry - frameBudget r.2 }) else r

/-- 60 R541: `framebuffer()`: `prepared` as 160 x 144 RGB8 triples, row-major from the top-left. -/
def framebuffer (s : State) : List (Byte × Byte × Byte) :=
  (List.range Config.screenH).flatMap fun y => (s.ppu.prepared.row y).map Pixel.rgb

/-- 60 R542: `snapshot()`: a copy of the whole state. -/
def snapshot (s : State) : State := s

/-- 60 R542: restoring the snapshot `saved` in state `s` replaces the whole state, but the draws taken after it are new
ones: no index of `Config.draw` that either state has used is used again. Log 2. -/
def restore (saved s : State) : State := { saved with draws := max saved.draws s.draws }

/-- 60 R542: restoring with the draws recorded: a replay repeats the draws taken after the snapshot. Log 2. -/
def restoreRecorded (saved _s : State) : State := saved

/-- 60 R543: `getSaveData()`. -/
def getSaveData (s : State) : List Byte :=
  match s.cart.mbc with
  | .romOnly => []
  | .mbc2 => (s.cart.mbc2Ram.bytes 0 512).map (· &&& 0x0F)
  | _ => s.cart.ram.bytes 0 0x20000

/-- 60 R544: `loadSaveData(bytes)`; the prefix given is stored, the rest of RAM is unchanged. -/
def loadSaveData (bs : List Byte) (s : State) : State :=
  match s.cart.mbc with
  | .romOnly => s
  | .mbc2 => { s with cart.mbc2Ram := s.cart.mbc2Ram.setBytes 512 0 (bs.map (· &&& 0x0F)) }
  | _ => { s with cart.ram := s.cart.ram.setBytes 0x20000 0 bs }

/-- 60 R547: the error of `construct`. -/
inductive LoadError where
  | headerTooShort
  deriving DecidableEq, Repr

/-- 70 R800: `construct(romBytes, options)`, with `BootState` and `initialRam` as arguments (00 R7). -/
def construct (rom : List Byte) (requestCgb soundEnabled : Bool) (boot : BootState) (ram : InitialRam) :
    Except LoadError State :=
  if rom.length < 0x150 then .error .headerTooShort
  else .ok (initialState rom.length (Memory.ofBytes rom) requestCgb soundEnabled boot ram)

/-- 10 R70: the default `BootState` of the mode; `div` is OPEN (log 5). -/
def defaultBoot (cgbMode : Bool) (div : Byte) : BootState := if cgbMode then cgbBoot div else dmgBoot div

/-- 62 R720: one `Sample()` of the sampler: the pair of output samples and the state after it. Without
`soundEnabled` there is no sampler (D58). -/
def sample (s : State) : Option ((Int × Int) × State) :=
  if s.apu.soundEnabled then some (s.apu.output, { s with apu := s.apu.afterSample Config.sampleRate }) else none

/-- 62 R720: one pull of k samples, atomic between two steps: the samples in order and the state after them. -/
def pull : Nat → State → List (Int × Int) × State
  | 0, s => ([], s)
  | k + 1, s =>
    match sample s with
    | none => ([], s)
    | some (x, t) => let r := pull k t; (x :: r.1, r.2)

/-- What the host and the sampler can do to a constructed machine between two steps (60 R560, 62 R720). -/
inductive HostOp where
  | press (btn : Button)
  | release (btn : Button)
  | loadSave (bs : List Byte)
  | pull (k : Nat)
  deriving DecidableEq, Repr

/-- The effect of a host operation. -/
def HostOp.apply (o : HostOp) (s : State) : State :=
  match o with
  | .press btn => pressButton btn s
  | .release btn => releaseButton btn s
  | .loadSave bs => loadSaveData bs s
  | .pull k => (Machine.pull k s).2

end Sys2Proof.Machine
end

