-- ==== Sys2Proof/Safety.lean ====
section
/-! DEFINITION. The terms claims are stated in: which reads and writes complete, what a read gives, which storage an
address names, the parked end of a run (60 R548), and the invariant every step keeps. -/

namespace Sys2Proof.Machine

/-- The byte a read with the bits `r` gives in state `s`: the stored bits, and the next draw for the others (00 R12). -/
def readValue (r : ReadBits) (s : State) : Byte := r.value ||| (Config.draw s.draws &&& r.drawn)

/-- The state after a read with the bits `r`: unchanged, but for the count of draws where a draw was taken (20 R106). -/
def afterRead (r : ReadBits) (s : State) : State := if r.drawn = 0 then s else { s with draws := s.draws + 1 }

/-- A read of `a` raises no fault. -/
def readable (a : Word) (s : State) : Bool :=
  match peek a s with
  | .ok _ => true
  | .error _ => false

/-- Reads of the `n` bytes from `a` on raise no fault. -/
def blockReadable (a : Word) (n : Nat) (s : State) : Bool :=
  (List.range n).all fun i => readable (a + BitVec.ofNat 16 i) s

/-- An RTC index the arrays do not have is selected (20 R168). -/
def badRtcSelected (c : Cart) : Bool :=
  decide (c.mbc = .mbc3) && c.ramEnabled && decide (0x0F < c.ramBank.toNat)

/-- A write of `v` at `a` raises no fault: not to a missing RTC register, and no DMA whose source cannot be read
(20 R140, R142, R168). -/
def writable (a : Word) (v : Byte) (s : State) : Bool :=
  if 0xA000 ≤ a ∧ a < 0xC000 then !badRtcSelected s.cart
  else if a = 0xFF46 then blockReadable (mkWord v 0) 160 s
  else if a = 0xFF55 ∧ s.cgbMode = true ∧ s.hdma.active = false ∧ bitOf v 7 = false then
    blockReadable s.hdma.src (((v.extractLsb' 0 7).toNat + 1) * 16) s
  else true

/-- A byte of storage behind an address, in the arrays of 10 R38, R63 and IE. -/
inductive Cell where
  | vram (i : Nat)
  | ram (i : Nat)
  | nibble (i : Nat)
  | rtc (latched : Bool) (i : Nat)
  | wram (i : Nat)
  | oam (i : Nat)
  | hram (i : Nat)
  | ie
  deriving DecidableEq, Repr

/-- The storage a write at `a` changes, where it is plain storage (20 R105): none for the ROM window, the I/O
registers, the unusable range and absent cartridge RAM. -/
def cellOf (a : Word) (s : State) : Option Cell :=
  let n := a.toNat
  if n < 0x8000 then none
  else if n < 0xA000 then some (.vram (vramIndex s n))
  else if n < 0xC000 then
    match ramTarget s.cart n with
    | .ram i => some (.ram i)
    | .nibble i => some (.nibble i)
    | .rtc i => some (.rtc s.cart.rtcIsLatched i)
    | .absent => none
    | .badRtc _ => none
  else if n < 0xE000 then some (.wram (wramIndex s n))
  else if n < 0xFE00 then some (.wram (wramIndex s (n - 0x2000)))
  else if n < 0xFEA0 then some (.oam (n - 0xFE00))
  else if n < 0xFF80 then none
  else if n < 0xFFFF then some (.hram (n - 0xFF80))
  else some .ie

/-- 60 R548: parked. -/
def Parked (s : State) : Prop :=
  s.cpu.halted = true ∧ s.cpu.enabling = false ∧ s.ie.extractLsb' 0 5 = 0 ∧ s.fault = none

/-- Row numbers from `lo` on and below 144, strictly rising, each row 160 pixels (10 R64). -/
def Frame.wfFrom : Nat → Frame → Bool
  | _, [] => true
  | lo, (y, row) :: t =>
    decide (lo ≤ y) && decide (y < Config.screenH) && decide (row.length = Config.screenW) && Frame.wfFrom (y + 1) t

/-- The form of a byte array of `n` bytes: canonical, every index below `n`. -/
def arrayWf (n : Nat) (m : Memory) : Bool := m.wf && m.below n

/-- The bank numbers each controller can hold (20 R157 to R169). -/
def banksWf (c : Cart) : Prop :=
  match c.mbc with
  | .romOnly => c.romBank = 1
  | .mbc1 => c.romBank &&& 0x1F ≠ 0 ∧ c.romBank.toNat < 0x80 ∧ c.ramBank.toNat ≤ 3
  | .mbc2 => 1 ≤ c.romBank.toNat ∧ c.romBank.toNat ≤ 0x0F
  | .mbc3 => 1 ≤ c.romBank.toNat ∧ c.romBank.toNat ≤ 0x7F
  | .mbc5 => c.ramBank.toNat ≤ 0x0F

/-- Every byte array has its form and size (10 R38, R62, R63). -/
structure ArraysInv (s : State) : Prop where
  vram : arrayWf 0x4000 s.ppu.vram = true
  oam : arrayWf 160 s.ppu.oam = true
  bgPal : arrayWf 64 s.ppu.bgPal = true
  objPal : arrayWf 64 s.ppu.objPal = true
  wram : arrayWf 0x8000 s.wram = true
  hram : arrayWf 127 s.hram = true
  wave : arrayWf 16 s.apu.wave = true
  regs : arrayWf 0x27 s.apu.regs = true
  rom : arrayWf s.cart.romLength s.cart.rom = true
  ram : arrayWf 0x20000 s.cart.ram = true
  mbc2Ram : arrayWf 512 s.cart.mbc2Ram = true
  nibbles : (s.cart.mbc2Ram.all fun c => decide (c.2.toNat < 16)) = true
  rtcLive : arrayWf 16 s.cart.rtcLive = true
  rtcLatched : arrayWf 16 s.cart.rtcLatched = true

/-- The counters and buffers of the PPU, the divider and the timer are in range (10 R34, R36, R51, R64). -/
structure CountersInv (s : State) : Prop where
  divAcc : s.timer.divAcc < 255
  timerCounter : s.timer.timerCounter < 1024
  ly : s.ppu.ly.toNat ≤ 153
  dot : s.ppu.dot < 912
  vblankMode : 144 ≤ s.ppu.ly.toNat → s.ppu.mode = 1
  screen : Frame.wfFrom 0 s.ppu.screen = true
  prepared : Frame.wfFrom 0 s.ppu.prepared = true
  bgIndex : s.ppu.bgIndex.length = 160
  bgAttrPrio : s.ppu.bgAttrPrio.length = 160

/-- The mode-bound and unit-bound facts: HDMA (10 R37), the CGB-only state in DMG mode (10 R31, R58, R61), the kinds
of the channels (10 R65), the banks, and `enabling`, set only inside a step (60 R513). -/
structure UnitsInv (s : State) : Prop where
  hdmaDst : 0x8000 ≤ s.hdma.dst.toNat ∧ s.hdma.dst.toNat < 0xA000
  hdmaRemaining : s.hdma.remaining ≤ 128
  hdmaActive : s.hdma.active = true → 1 ≤ s.hdma.remaining
  dmgOnly : s.supportMode = .dmgOnly → s.cgbMode = false
  dmg : s.cgbMode = false →
    s.doubleSpeed = false ∧ s.speedArmed = false ∧ s.ppu.vbk = false ∧ s.svbk = 0 ∧ s.hdma.active = false
  banks : banksWf s.cart
  kinds : s.apu.ch1.kind = .square ∧ s.apu.ch2.kind = .square ∧ s.apu.ch3.kind = .wave ∧ s.apu.ch4.kind = .noise
  enabling : s.fault = none → s.cpu.enabling = false

/-- The invariant of the machine: what construct gives and every step and host operation keeps. -/
structure Inv (s : State) : Prop where
  arrays : ArraysInv s
  counters : CountersInv s
  units : UnitsInv s

/-- A safe step: the machine goes on from `s` with no fault recorded. -/
def SafeStep (s : State) : Prop := ∃ t, step s = .next t ∧ t.fault = none

end Sys2Proof.Machine
end

