-- ==== Sys2Proof/Certificates/Slice0/Obligations.lean ====
section
/-! DEFINITION. The obligations: statements from the spec's numbered rules for the provers. The names in
Sys2Proof.Claims are the terms they are written in, spelled out from the rules and not from the machine's own
operations. -/

open Sys2Proof Sys2Proof.Machine

namespace Sys2Proof.Claims

/-- What exec and step answer. -/
abbrev Answer := Host.Outcome State Fault Refusal

/-- A plain byte of storage (every kind but the 4-bit entries of MBC2). -/
def byteCell : Cell → Bool
  | .nibble _ => false
  | _ => true

/-- The byte a cell of storage holds, of a bank the bus shows or not. -/
def cellByte (c : Cell) (s : State) : Byte :=
  match c with
  | .vram i => s.ppu.vram.get i
  | .ram i => s.cart.ram.get i
  | .nibble i => s.cart.mbc2Ram.get i
  | .rtc latched i => if latched then s.cart.rtcLatched.get i else s.cart.rtcLive.get i
  | .wram i => s.wram.get i
  | .oam i => s.ppu.oam.get i
  | .hram i => s.hram.get i
  | .ie => s.ie

/-- The eleven illegal opcodes (45 R405) with their constructors. -/
def illegalRows : List (Byte × Instr) :=
  [(0xD3, .illegal_d3), (0xDB, .illegal_db), (0xDD, .illegal_dd), (0xE3, .illegal_e3), (0xE4, .illegal_e4),
   (0xEB, .illegal_eb), (0xEC, .illegal_ec), (0xED, .illegal_ed), (0xF4, .illegal_f4), (0xFC, .illegal_fc),
   (0xFD, .illegal_fd)]

/-- The bytes decode to the instruction and nothing is left over. -/
def Encodes (bs : List Byte) (i : Instr) : Prop := decode bs = .ok (i, [])

/-- The 3-bit code of a register (10 R23); code 6 is (HL). -/
def regBits : Reg8 → BitVec 3
  | .b => 0
  | .c => 1
  | .d => 2
  | .e => 3
  | .h => 4
  | .l => 5
  | .a => 7

/-- The 3-bit code of an 8-bit operand (10 R23). -/
def r8Bits (r : R8) : BitVec 3 :=
  match r.reg with
  | some q => regBits q
  | none => 6

/-- The 2-bit code of a pair of table rr (10 R24). -/
def rrBits : Rr → BitVec 2
  | .bc => 0
  | .de => 1
  | .hl => 2
  | .sp => 3

/-- The 2-bit code of a pair of table qq (10 R24). -/
def qqBits : Qq → BitVec 2
  | .bc => 0
  | .de => 1
  | .hl => 2
  | .af => 3

/-- The 2-bit code of a condition (30 R173). -/
def ccBits : Cond → BitVec 2
  | .nz => 0
  | .z => 1
  | .nc => 2
  | .c => 3

/-- The 3-bit code of an ALU operation (41 R250). -/
def aluBits : AluOp → BitVec 3
  | .add => 0
  | .adc => 1
  | .sub => 2
  | .sbc => 3
  | .and => 4
  | .xor => 5
  | .or => 6
  | .cp => 7

/-- The 3-bit code of a CB rotate, shift or SWAP (30 R175). -/
def rotBits : RotOp → BitVec 3
  | .rlc => 0
  | .rrc => 1
  | .rl => 2
  | .rr => 3
  | .sla => 4
  | .sra => 5
  | .swap => 6
  | .srl => 7

/-- The effect of an ALU operation of second operand `v` on A and F, in its three forms (41 R250): a register, the byte
at HL (read once, before any register is written) and an immediate; a read that faults leaves all but `fault`. With the
encoding of each form. -/
def AluForms (op : AluOp) (eff : Byte → State → State) : Prop :=
  (∀ q : Reg8, Encodes [0b10#2 ++ aluBits op ++ regBits q] (aluInstr op q.toR8)) ∧
  Encodes [0b10#2 ++ aluBits op ++ 0b110#3] (aluInstr op .atHL) ∧
  (∀ n : Byte, Encodes [0b11#2 ++ aluBits op ++ 0b110#3, n] (aluImmInstr op n)) ∧
  (∀ (q : Reg8) (s : State), exec (aluInstr op q.toR8) s = .next { eff (getReg q s) s with cost := 4 }) ∧
  (∀ (n : Byte) (s : State), exec (aluImmInstr op n) s = .next { eff n s with cost := 8 }) ∧
  (∀ (s : State) (r : ReadBits), peek (getHL s) s = .ok r →
    exec (aluInstr op .atHL) s = .next { eff (readValue r s) (afterRead r s) with cost := 8 }) ∧
  (∀ (s : State) (e : Fault), peek (getHL s) s = .error e →
    exec (aluInstr op .atHL) s = .next { s with fault := some e })

/-- ADD (c = 0) and ADC (c = the carry) (41 R251, R252). -/
def addEffect (c : State → Bool) (v : Byte) (s : State) : State :=
  let a := s.cpu.a.toNat
  let r := a + v.toNat + (c s).toNat
  { s with
    cpu.a := BitVec.ofNat 8 (r &&& 0xFF)
    cpu.f := { z := decide (r &&& 0xFF = 0), n := false,
               h := decide ((a &&& 0x0F) + (v.toNat &&& 0x0F) + (c s).toNat > 0x0F), c := decide (r > 0xFF) } }

/-- The flags of SUB, SBC and CP, from integers (41 R253, R254, R258). -/
def subFlags (a v : Byte) (c : Bool) : Flags :=
  { z := decide (((a.toNat : Int) - v.toNat - c.toNat) % 256 = 0), n := true,
    h := decide ((a.toNat &&& 0x0F) < (v.toNat &&& 0x0F) + c.toNat), c := decide (a.toNat < v.toNat + c.toNat) }

/-- SUB (c = 0) and SBC (c = the carry) (41 R253, R254). -/
def subEffect (c : State → Bool) (v : Byte) (s : State) : State :=
  { s with
    cpu.a := BitVec.ofInt 8 (((s.cpu.a.toNat : Int) - v.toNat - (c s).toNat) % 256)
    cpu.f := subFlags s.cpu.a v (c s) }

/-- AND, XOR and OR: the result and the H flag (41 R255 to R257). -/
def logicEffect (f : Byte → Byte → Byte) (h : Bool) (v : Byte) (s : State) : State :=
  { s with cpu.a := f s.cpu.a v, cpu.f := { z := decide (f s.cpu.a v = 0), n := false, h := h, c := false } }

/-- The instruction `i` loads register `q` from the byte at `a s`, at a cost of `c`. -/
def LoadsFrom (i : Instr) (q : Reg8) (a : State → Word) (c : Nat) : Prop :=
  ∀ s : State,
    (∀ r : ReadBits, peek (a s) s = .ok r →
      exec i s = .next { setReg q (readValue r s) (afterRead r s) with cost := c }) ∧
    (∀ e : Fault, peek (a s) s = .error e → exec i s = .next { s with fault := some e })

/-- The instruction `i` stores the byte `v s` at `a s`, at a cost of `c`, and changes nothing else: no register, no
flag. What a bus write does is the subject of the statements about `busWrite`. -/
def StoresAt (i : Instr) (a : State → Word) (v : State → Byte) (c : Nat) : Prop :=
  ∀ s : State,
    (writable (a s) (v s) s = true →
      ∃ t, busWrite (a s) (v s) s = .ok () t ∧ t.cpu = s.cpu ∧ t.fault = s.fault ∧
        exec i s = .next { t with cost := c }) ∧
    (∀ (e : Fault) (t : State), busWrite (a s) (v s) s = .stop e t → exec i s = .next { t with fault := some e })

/-- From `s` to `t` nothing changes but the CPU's registers, the storage behind plain addresses and the model's own
`cost`: no timer, interrupt, DMA, sound, LCD or bank register, no draw, no fault. -/
def OnlyStorage (s t : State) : Prop :=
  t = { s with cpu := t.cpu, cost := t.cost, ppu.vram := t.ppu.vram, ppu.oam := t.ppu.oam, wram := t.wram,
               hram := t.hram, ie := t.ie, cart.ram := t.cart.ram, cart.mbc2Ram := t.cart.mbc2Ram,
               cart.rtcLive := t.cart.rtcLive, cart.rtcLatched := t.cart.rtcLatched }

/-- The frame in memory of an instruction that stores the byte `v s` at `a s`: where that is plain storage, the stored
byte reads back at every address of that storage, every address of other storage (ROM and I/O among them) reads as
before, the CPU's registers are `k s`, and nothing else changes: no cell of any bank but the stored one. -/
def StoreFrameOf (i : Instr) (a : State → Word) (v : State → Byte) (k : State → Cpu) : Prop :=
  ∀ (s : State) (c : Cell), ArraysInv s → cellOf (a s) s = some c →
    ∃ t, exec i s = .next t ∧ t.cpu = k s ∧
      (∀ x : Word, cellOf x s = some c → peek x t = .ok (if byteCell c then ⟨v s, 0x00⟩ else ⟨v s &&& 0x0F, 0xF0⟩)) ∧
      (∀ x : Word, cellOf x s ≠ some c → peek x t = peek x s) ∧ (∀ d : Cell, d ≠ c → cellByte d t = cellByte d s) ∧
      OnlyStorage s t

/-- The frame of an instruction that replaces the byte at HL by `f` of it and sets the flags `g` of it. -/
def ModifyFrameOf (i : Instr) (f : Byte → Flags → Byte) (g : Byte → Flags → Flags) : Prop :=
  ∀ (s : State) (c : Cell) (r : ReadBits), ArraysInv s → cellOf (getHL s) s = some c → byteCell c = true →
    peek (getHL s) s = .ok r →
    ∃ t, exec i s = .next t ∧ t.cpu = { s.cpu with f := g r.value s.cpu.f } ∧
      (∀ x : Word, cellOf x s = some c → peek x t = .ok ⟨f r.value s.cpu.f, 0x00⟩) ∧
      (∀ x : Word, cellOf x s ≠ some c → peek x t = peek x s) ∧ (∀ d : Cell, d ≠ c → cellByte d t = cellByte d s) ∧
      OnlyStorage s t

/-- The frame of an instruction that stores the word `v s`, its low byte at `a s` and its high byte at the address after
it, two different plain bytes. -/
def WordFrameOf (i : Instr) (a v : State → Word) (k : State → Cpu) : Prop :=
  ∀ (s : State) (c d : Cell), ArraysInv s → cellOf (a s) s = some c → cellOf (a s + 1) s = some d → c ≠ d →
    byteCell c = true → byteCell d = true →
    ∃ t, exec i s = .next t ∧ t.cpu = k s ∧
      (∀ x : Word, cellOf x s = some c → peek x t = .ok ⟨loByte (v s), 0x00⟩) ∧
      (∀ x : Word, cellOf x s = some d → peek x t = .ok ⟨hiByte (v s), 0x00⟩) ∧
      (∀ x : Word, cellOf x s ≠ some c → cellOf x s ≠ some d → peek x t = peek x s) ∧
      (∀ e : Cell, e ≠ c → e ≠ d → cellByte e t = cellByte e s) ∧ OnlyStorage s t

/-- The instruction reads the operand of accessor `r`, replaces it by `f` of it and writes it back, then sets the flags
`g` of it (43 R334): one read and one write, at a cost of 8, or 16 for (HL); a fault ends it where it is raised. -/
def ReadsModifies (i : Instr) (r : R8) (f : Byte → Flags → Byte) (g : Byte → Flags → Flags) : Prop :=
  (∀ (q : Reg8) (s : State), r.reg = some q →
    exec i s = .next
      { setReg q (f (getReg q s) s.cpu.f) s with cpu.f := g (getReg q s) s.cpu.f, cost := 8 }) ∧
  (∀ (s : State) (b : ReadBits), r.reg = none → peek (getHL s) s = .ok b →
    writable (getHL s) (f (readValue b s) s.cpu.f) s = true →
    ∃ t, busWrite (getHL s) (f (readValue b s) s.cpu.f) (afterRead b s) = .ok () t ∧
      exec i s = .next { t with cpu.f := g (readValue b s) s.cpu.f, cost := 16 }) ∧
  (∀ (s : State) (e : Fault), r.reg = none → peek (getHL s) s = .error e → exec i s = .next { s with fault := some e }) ∧
  (∀ (s t : State) (b : ReadBits) (e : Fault), r.reg = none → peek (getHL s) s = .ok b →
    busWrite (getHL s) (f (readValue b s) s.cpu.f) (afterRead b s) = .stop e t → exec i s = .next { t with fault := some e })

/-- Pushing `v` in state `s` gives `t` (20 R102): the high byte at SP - 1, then the low byte at SP - 2. -/
def Pushes (v : Word) (s t : State) : Prop :=
  ∃ u, busWrite (s.cpu.sp - 1) (hiByte v) { s with cpu.sp := s.cpu.sp - 1 } = .ok () u ∧
    busWrite (s.cpu.sp - 2) (loByte v) { u with cpu.sp := s.cpu.sp - 2 } = .ok () t

/-- Both byte writes of a push raise no fault. -/
def PushOk (v : Word) (s : State) : Prop :=
  writable (s.cpu.sp - 1) (hiByte v) s = true ∧
    ∀ u, busWrite (s.cpu.sp - 1) (hiByte v) { s with cpu.sp := s.cpu.sp - 1 } = .ok () u →
      writable (s.cpu.sp - 2) (loByte v) u = true

/-- Pushing `v` in state `s` raises the fault `e` at one of its two writes and leaves `t`. -/
def PushStops (v : Word) (s : State) (e : Fault) (t : State) : Prop :=
  busWrite (s.cpu.sp - 1) (hiByte v) { s with cpu.sp := s.cpu.sp - 1 } = .stop e t ∨
  ∃ u, busWrite (s.cpu.sp - 1) (hiByte v) { s with cpu.sp := s.cpu.sp - 1 } = .ok () u ∧
    busWrite (s.cpu.sp - 2) (loByte v) { u with cpu.sp := s.cpu.sp - 2 } = .stop e t

/-- Popping in state `s` gives the value `v` and the state `t` (20 R102): the low byte at SP, then the high byte at
SP + 1. -/
def Pops (s : State) (v : Word) (t : State) : Prop :=
  ∃ lo hi, peek s.cpu.sp s = .ok lo ∧ peek (s.cpu.sp + 1) s = .ok hi ∧
    v = mkWord (readValue hi (afterRead lo s)) (readValue lo s) ∧
    t = { afterRead hi (afterRead lo s) with cpu.sp := s.cpu.sp + 2 }

/-- Both byte reads of a pop raise no fault. -/
def PopOk (s : State) : Prop := readable s.cpu.sp s = true ∧ readable (s.cpu.sp + 1) s = true

/-- Popping in state `s` raises the fault `e` at one of its two reads and leaves `t`. -/
def PopStops (s : State) (e : Fault) (t : State) : Prop :=
  (peek s.cpu.sp s = .error e ∧ t = s) ∨
  ∃ lo, peek s.cpu.sp s = .ok lo ∧ peek (s.cpu.sp + 1) s = .error e ∧
    t = { afterRead lo s with cpu.sp := s.cpu.sp + 1 }

/-- `cond(cc)` (44 R370). -/
def taken (cc : Cond) (s : State) : Prop :=
  match cc with
  | .nz => s.cpu.f.z = false
  | .z => s.cpu.f.z = true
  | .nc => s.cpu.f.c = false
  | .c => s.cpu.f.c = true

/-- The CB rotates, shifts and SWAP as arithmetic on the operand's value (43 R335 to R342): the result and C. -/
def rotSpec (op : RotOp) (v : Byte) (c0 : Bool) : Byte × Bool :=
  match op with
  | .rlc => (v.rotateLeft 1, v.getLsbD 7)
  | .rrc => (v.rotateRight 1, v.getLsbD 0)
  | .rl => (BitVec.ofNat 8 (2 * v.toNat + c0.toNat), v.getLsbD 7)
  | .rr => (BitVec.ofNat 8 (v.toNat / 2 + 128 * c0.toNat), v.getLsbD 0)
  | .sla => (BitVec.ofNat 8 (2 * v.toNat), v.getLsbD 7)
  | .sra => (BitVec.ofNat 8 (v.toNat / 2 + (if v.getLsbD 7 then 128 else 0)), v.getLsbD 0)
  | .swap => (v.rotateLeft 4, false)
  | .srl => (BitVec.ofNat 8 (v.toNat / 2), v.getLsbD 0)

/-- The flags the accumulator rotates leave (43 R330 to R333). -/
def onlyCarry (c : Bool) : Flags := { z := false, n := false, h := false, c := c }

/-- The MBC1 zero-skip (20 R157). -/
def skipZero (b : Byte) : Byte := if b = 0x00 ∨ b = 0x20 ∨ b = 0x40 ∨ b = 0x60 then b + 1 else b

/-- DAA's result and carry, from integers (41 R263). -/
def daaSpec (a : Byte) (f : Flags) : Byte × Bool :=
  if f.n then
    (BitVec.ofInt 8 (a.toNat - ((if f.c then 0x60 else 0) + (if f.h then 0x06 else 0))), f.c)
  else
    (BitVec.ofNat 8 (a.toNat + ((if f.c = true ∨ a.toNat > 0x99 then 0x60 else 0) +
      (if f.h = true ∨ a.toNat &&& 0x0F > 0x09 then 0x06 else 0))), f.c || decide (a.toNat > 0x99))

/-- TIMA after n increments from `tima`, and whether it overflowed on the way (60 R522). -/
def timaAfter (tma : Byte) : Nat → Byte → Byte × Bool
  | 0, tima => (tima, false)
  | n + 1, tima =>
    if tima = 0xFF then ((timaAfter tma n tma).1, true) else timaAfter tma n (tima + 1)

/-- The timer period of TAC[1:0] (60 R522). -/
def periodOf (tac : BitVec 3) : Nat := [1024, 16, 64, 256].getD (tac.toNat % 4) 0

/-- The I/O addresses that hold nothing, or nothing in DMG mode (20 R115). -/
def unmappedIo (cgb : Bool) (a : Word) : Prop :=
  (0xFF01 ≤ a ∧ a ≤ 0xFF03) ∨ (0xFF08 ≤ a ∧ a ≤ 0xFF0E) ∨ (0xFF27 ≤ a ∧ a ≤ 0xFF2F) ∨ a = 0xFF4C ∨ a = 0xFF4E ∨
  a = 0xFF50 ∨ (0xFF56 ≤ a ∧ a ≤ 0xFF67) ∨ (0xFF6C ≤ a ∧ a ≤ 0xFF6F) ∨ (0xFF71 ≤ a ∧ a ≤ 0xFF7F) ∨
  (cgb = false ∧ (a = 0xFF4D ∨ a = 0xFF4F ∨ (0xFF51 ≤ a ∧ a ≤ 0xFF55) ∨ (0xFF68 ≤ a ∧ a ≤ 0xFF6B) ∨ a = 0xFF70))

/-- Two states that differ in nothing but the sound registers, channels and sampler (62 R720): wave RAM, which the CPU
can read, is the same. -/
def SameButSound (s t : State) : Prop := { s with apu := t.apu } = t ∧ s.apu.wave = t.apu.wave

/-- Two answers whose states differ in nothing but sound. -/
def SameAnswerButSound : Answer → Answer → Prop
  | .next s, .next t => SameButSound s t
  | .fault a, .fault b => a = b
  | .refused a, .refused b => a = b
  | _, _ => False

/-- What a recorded fault says of the state it was raised in (60 R546). -/
def FaultExplained (r : Fault) (t : State) : Prop :=
  match r with
  | .illegalOpcode o => ∃ i, (o, i) ∈ illegalRows
  | .stopUnmodelled => ¬(t.cgbMode = true ∧ t.speedArmed = true)
  | .romOutOfRange idx => t.cart.romLength ≤ idx
  | .rtcIndexOutOfRange b => badRtcSelected t.cart = true ∧ b = t.cart.ramBank

/-- Two BCD digits as a byte. -/
def bcd (n : Nat) : Byte := BitVec.ofNat 8 (n / 10 * 16 + n % 10)

/-- The mode of a line and dot (61 R601). -/
def modeOf (spd ly dot : Nat) : BitVec 2 :=
  if 144 ≤ ly then 1 else if dot < 80 * spd then 2 else if dot < 252 * spd then 3 else 0

/-- A byte of VRAM by bank and offset, as the PPU reads it (20 R112). -/
def vramAt (p : Ppu) (bank i : Nat) : Byte := p.vram.get (bank * 0x2000 + i)

/-- The colour index of column `k` of the tile row at offset `o` of a bank (61 R611). -/
def tileBits (p : Ppu) (bank o k : Nat) : BitVec 2 :=
  BitVec.ofBool ((vramAt p bank (o + 1)).getLsbD (7 - k)) ++ BitVec.ofBool ((vramAt p bank o).getLsbD (7 - k))

/-- `TilePixel(mapOff, col, row)` (61 R611, R612): the colour index, the palette and the priority attribute. -/
def tileSpec (cgb : Bool) (p : Ppu) (mapOff col row : Nat) : BitVec 2 × BitVec 3 × Bool :=
  let n := (vramAt p 0 mapOff).toNat
  let attr : Byte := if cgb then vramAt p 1 mapOff else 0
  let base := if p.lcdc.getLsbD 4 then n * 16 else if n < 128 then 0x1000 + n * 16 else n * 16
  (tileBits p (attr.getLsbD 3).toNat (base + 2 * (if attr.getLsbD 6 then 7 - row else row))
    (if attr.getLsbD 5 then 7 - col else col), attr.extractLsb' 0 3, attr.getLsbD 7)

/-- The offset of entry (by, bx) of the tile map an LCDC bit selects (61 R611). -/
def mapSpec (high : Bool) (bx bly : Nat) : Nat := (if high then 0x1C00 else 0x1800) + bly / 8 * 32 + bx / 8

/-- Whether the window covers a pixel (61 R613). -/
def windowSpec (cgb : Bool) (p : Ppu) (x ly : Nat) : Prop :=
  p.lcdc.getLsbD 5 = true ∧ p.wy.toNat ≤ ly ∧ (p.wx.toNat : Int) - 7 ≤ x ∧ (cgb = true ∨ p.lcdc.getLsbD 0 = true)

/-- `BgWindowPixel(x, ly)` where the background shows, and where the window does (61 R612, R613). -/
def backgroundSpec (cgb : Bool) (p : Ppu) (x ly : Nat) : BitVec 2 × BitVec 3 × Bool :=
  let bx := (x + p.scx.toNat) % 256
  let bly := (ly + p.scy.toNat) % 256
  tileSpec cgb p (mapSpec (p.lcdc.getLsbD 3) bx bly) (bx % 8) (bly % 8)
def windowPixelSpec (cgb : Bool) (p : Ppu) (x ly : Nat) : BitVec 2 × BitVec 3 × Bool :=
  let wx := x + 7 - p.wx.toNat
  let wly := ly - p.wy.toNat
  tileSpec cgb p (mapSpec (p.lcdc.getLsbD 6) wx wly) (wx % 8) (wly % 8)

/-- `CgbColour(mem, p, c)` before the colour table (61 R621): little-endian, 15 bits used. -/
def cgbColourSpec (mem : Memory) (pal c : Nat) : Pixel :=
  .colour (BitVec.ofNat 15 ((mem.get (8 * pal + 2 * c)).toNat + 256 * (mem.get (8 * pal + 2 * c + 1)).toNat))

/-- The shade a DMG palette register gives a colour index (61 R620). -/
def shadeSpec (pal : Byte) (idx : BitVec 2) : Pixel := .shade (BitVec.ofNat 2 ((pal.toNat >>> (2 * idx.toNat)) &&& 3))

/-- The height of the sprites (61 R615). -/
def spriteRows (p : Ppu) : Nat := if p.lcdc.getLsbD 2 then 16 else 8

/-- The pixel at x of line ly (61 R610): the background's, unless a sprite is on, opaque and in front there; the first
sprite in priority order that is opaque decides. -/
def pixelSpec (cgb : Bool) (p : Ppu) (ly x : Nat) : Pixel :=
  let b := bgWindowPixel cgb p x ly
  match (if p.lcdc.getLsbD 1 then selectSprites cgb p ly else []).find? fun s => decide (spritePixel cgb p s x ly ≠ 0) with
  | none => bgColour cgb p b.1 b.2.1
  | some s =>
    if bgWins cgb p s b.1 b.2.2 then bgColour cgb p b.1 b.2.1 else objColour cgb p s (spritePixel cgb p s x ly)

/-- What a channel's envelope does at a sample (62 R707). -/
def envelopeSpec (c : Channel) : Channel :=
  if c.envSamplesPerStep = 0 ∨ c.envTarget = 0 then c
  else if c.envStep + 1 ≠ c.envSamplesPerStep then { c with envStep := c.envStep + 1 }
  else { c with envStep := 0, envTarget := c.envTarget - 1,
                amplitude := BitVec.ofInt 4 (c.amplitude.toNat + if c.envDir then 1 else -1) }

/-- What a channel's sweep does at a sample (62 R708). -/
def sweepSpec (c : Channel) : Channel :=
  let d : Int := ((c.shadow.toNat / 2 ^ c.sweepSteps : Nat) : Int)
  let new : Int := if c.sweepDir then c.shadow.toNat - d else c.shadow.toNat + d
  if c.sweepLen = 0 ∨ c.sweepSteps = 0 then c
  else if c.sweepCount + 1 ≠ c.sweepLen then { c with sweepCount := c.sweepCount + 1 }
  else if 2047 < new then { c with sweepCount := 0, on := false }
  else { c with sweepCount := 0, shadow := BitVec.ofInt 11 new, freqHz := 131072 / (2048 - (new : Rat)) }

/-- What a channel's length does at a sample (62 R706). -/
def durationSpec (c : Channel) : Channel :=
  match c.duration with
  | none => c
  | some d => { c with duration := some (d - 1), on := c.on && decide (1 < d) }

/-- What a sample does to a channel that is on (62 R720). -/
def sampledSpec (rate : Nat) (sweeps : Bool) (c : Channel) : Channel :=
  let t := envelopeSpec (durationSpec { c with phase := Int.fract (c.phase + c.freqHz / (rate : Rat)) })
  if sweeps then sweepSpec t else t

/-- The APU after `Sample()` (62 R720): channels 1 to 4 advanced in order. -/
def sampledApu (rate : Nat) (a : Apu) : Apu :=
  (((a.advance rate .one).advance rate .two).advance rate .three).advance rate .four

/-- The frame budget at a state's speed (60 R540). -/
def budgetOf (s : State) : Nat := 69905 * (if s.doubleSpeed then 2 else 1)

/-- The cycles the first k steps of a run charge (60 R501, R540). -/
def spentIn (run : Nat → State) (k : Nat) : Nat := ((List.range k).map fun i => (run (i + 1)).charge).sum

/-- The values of the channels NR51 routes to one side, from its bit `lo` on (62 R720). -/
def routedSpec (s : Apu) (lo : Nat) : List Nat :=
  ([Chan.one, .two, .three, .four].filter fun n => (s.regs.get 0x25).getLsbD (lo + n.num - 1)).map s.waveform

/-- The base address of a channel's registers (62 R701). -/
def nrAddress (n : Chan) (k : Nat) : Word := BitVec.ofNat 16 (0xFF10 + 5 * (n.num - 1) + k)

end Sys2Proof.Claims

open Sys2Proof.Claims

/-! ## Encoding -/

/-- 30 R170 to R178: decoding what the encoder gives for a well-formed instruction gives it back, with every operand at
every value, and leaves the bytes after it. -/
def Obligations.DecodeEncodeRoundTrip : Prop :=
  ∀ (i : Instr) (rest : List Byte), WellFormed i = true → decode (encode i ++ rest) = .ok (i, rest)

/-- 30 R174 to R178: whatever byte list decodes, the instruction is well-formed and the bytes are its encoding followed
by the rest: each byte sequence has one meaning and no bit of it is dropped. -/
def Obligations.DecodedBytesAreTheEncoding : Prop :=
  ∀ (bs : List Byte) (i : Instr) (rest : List Byte), decode bs = .ok (i, rest) →
    WellFormed i = true ∧ bs = encode i ++ rest

/-- 30 R174, R175: words written out from the spec's tables decode to the instruction they stand for, one or more of
each family. -/
def Obligations.SpecWordsDecode : Prop :=
  decode [0x78] = .ok (.ld_a_b, []) ∧ decode [0x3E, 0x5A] = .ok (.ld_a_n8 0x5A, []) ∧
  decode [0x31, 0xFE, 0xFF] = .ok (.ld_sp_n16 0xFFFE, []) ∧ decode [0x08, 0x00, 0xC0] = .ok (.ld_atA16_sp 0xC000, []) ∧
  decode [0xE0, 0x04] = .ok (.ldh_atA8_a 0x04, []) ∧ decode [0xF5] = .ok (.push_af, []) ∧
  decode [0x9C] = .ok (.sbc_a_h, []) ∧ decode [0xFE, 0x40] = .ok (.cp_n8 0x40, []) ∧
  decode [0x35] = .ok (.dec_atHL, []) ∧ decode [0x27] = .ok (.daa, []) ∧ decode [0x29] = .ok (.add_hl_hl, []) ∧
  decode [0xE8, 0x02] = .ok (.add_sp_e8 0x02, []) ∧ decode [0x1F] = .ok (.rra, []) ∧
  decode [0xCB, 0x15] = .ok (.rl_l, []) ∧ decode [0xCB, 0x7C] = .ok (.bit_7_h, []) ∧
  decode [0xCB, 0xDE] = .ok (.set_3_atHL, []) ∧ decode [0xCB, 0xBF] = .ok (.res_7_a, []) ∧
  decode [0xCA, 0x00, 0x20] = .ok (.jp_z_a16 0x2000, []) ∧ decode [0x20, 0xFB] = .ok (.jr_nz_e8 0xFB, []) ∧
  decode [0xCD, 0x00, 0x40] = .ok (.call_a16 0x4000, []) ∧ decode [0xD9] = .ok (.reti, []) ∧
  decode [0xEF] = .ok (.rst_28, []) ∧ decode [0x76] = .ok (.halt, []) ∧ decode [0x10, 0x00] = .ok (.stop 0x00, []) ∧
  decode [0xD3] = .ok (.illegal_d3, [])

/-- 30 R176: the first byte alone gives the length: 3 or 2 for the listed bytes, 1 for every other, and a byte list is
decoded exactly when it has that many bytes. The decoder takes no machine state, so no mode changes it. -/
def Obligations.LengthFromFirstByte : Prop :=
  ∀ (o : Byte) (rest : List Byte),
    (instrLength o = 3 ↔
      o ∈ ([0x01, 0x08, 0x11, 0x21, 0x31, 0xC2, 0xC3, 0xC4, 0xCA, 0xCC, 0xCD, 0xD2, 0xD4, 0xDA, 0xDC, 0xEA, 0xFA] :
        List Byte)) ∧
    (instrLength o = 2 ↔
      o ∈ ([0x06, 0x0E, 0x10, 0x16, 0x18, 0x1E, 0x20, 0x26, 0x28, 0x2E, 0x30, 0x36, 0x38, 0x3E, 0xC6, 0xCB, 0xCE, 0xD6,
        0xDE, 0xE0, 0xE6, 0xE8, 0xEE, 0xF0, 0xF6, 0xF8, 0xFE] : List Byte)) ∧
    (1 ≤ instrLength o ∧ instrLength o ≤ 3) ∧
    (instrLength o ≤ rest.length + 1 →
      ∃ i, decode (o :: rest) = .ok (i, rest.drop (instrLength o - 1)) ∧ (encode i).length = instrLength o ∧
        (encode i).head? = some o) ∧
    (rest.length + 1 < instrLength o → decode (o :: rest) = .error .truncated)

/-- 45 R406, 30 R175, R178: the prefix with the byte o after it is the CB instruction of o, with its cost: the same
answer in every state, a next state without a fault whenever the operand can be read and written. -/
def Obligations.PrefixCbRunsThePair : Prop :=
  (∀ (o : Byte) (s : State), exec (.prefix_cb o) s = exec (decodeCb o) s) ∧
  (∀ (o : Byte) (s : State), s.fault = none →
    (o.extractLsb' 0 3 = 6 → readable (getHL s) s = true ∧ ∀ v, writable (getHL s) v s = true) →
    ∃ t, exec (.prefix_cb o) s = .next t ∧ t.fault = none ∧ t.cpu.pc = s.cpu.pc) ∧
  (∀ o : Byte, decode [0xCB, o] = .ok (decodeCb o, []))

/-! ## The step -/

/-- 60 R501, 30 R178: when the bytes at PC decode to an instruction, the step is exec of it with PC past its bytes,
then the PPU, the timer and the interrupt service; an instruction that raised a fault ends the step, and so does a
fetch that faults. The cost and charge fields are the model's own (log 8). -/
def Obligations.StepRunsDecodedInstruction : Prop :=
  (∀ (s : State) (bs : List Byte) (i : Instr), s.fault = none → s.cpu.halted = false → decode bs = .ok (i, []) →
    (∀ k, k < bs.length → peek (s.cpu.pc + BitVec.ofNat 16 k) s = .ok (.stored (bs.getD k 0))) →
    step s = afterExec (spdOf s)
      (exec i { s with cpu.pc := s.cpu.pc + BitVec.ofNat 16 bs.length, cost := 0, charge := 0 })) ∧
  (∀ (s : State) (i : Instr) (t : State), s.fault = none → s.cpu.halted = false →
    fetchInstr { s with cost := 0, charge := 0 } = .ok i t → step s = afterExec (spdOf s) (exec i t)) ∧
  (∀ (s : State) (e : Fault) (t : State), s.fault = none → s.cpu.halted = false →
    fetchInstr { s with cost := 0, charge := 0 } = .stop e t → step s = .next { t with fault := some e }) ∧
  (∀ (spd : Nat) (t u w : State) (x : Nat), t.fault = none → ppuStep spd t.cost t = .ok () u →
    interruptService (timerStep t.cost u) = .ok x w →
    afterExec spd (.next t) = .next { w with charge := t.cost + x }) ∧
  (∀ (spd : Nat) (t : State), t.fault ≠ none → afterExec spd (.next t) = .next t)

/-- 60 R502, R501: a halted step executes nothing: it fetches nothing and passes 4 cycles to the PPU and the timer; the
CPU's registers are as they were unless the interrupt service ends the halt. -/
def Obligations.HaltedStepExecutesNothing : Prop :=
  ∀ (s u w : State) (x : Nat), s.fault = none → s.cpu.halted = true →
    ppuStep (spdOf s) 4 { s with cost := 4, charge := 0 } = .ok () u →
    interruptService (timerStep 4 u) = .ok x w →
    step s = .next { w with charge := 4 + x } ∧ u.cpu = s.cpu ∧
      (w.cpu.halted = true →
        w.cpu = { s.cpu with ime := s.cpu.ime || s.cpu.enabling, enabling := false } ∧ w.cpu.pc = s.cpu.pc)

/-- 10 R68: no fault is recorded at reset; a recorded fault is never cleared by a step or a host operation on the
machine, and no further step is taken. -/
def Obligations.FaultIsFinal : Prop :=
  State.reset.fault = none ∧
  (∀ (s : State) (r : Fault), s.fault = some r →
    step s = .fault r ∧ update s = (0, s) ∧ ∀ o : HostOp, (o.apply s).fault = some r)

/-- 60 R546, R545: every fault a step or an instruction records has one of the spec's four causes, and the state it
leaves shows it. -/
def Obligations.FaultsHaveTheirCauses : Prop :=
  (∀ (s t : State) (r : Fault), s.fault = none → step s = .next t → t.fault = some r → FaultExplained r t) ∧
  (∀ (i : Instr) (s t : State) (r : Fault), s.fault = none → exec i s = .next t → t.fault = some r →
    FaultExplained r t ∧ (∀ o, r = .illegalOpcode o → (o, i) ∈ illegalRows) ∧
      (r = .stopUnmodelled → ∃ x, i = .stop x))

/-! ## Invariants -/

/-- The invariant holds at reset. -/
def Obligations.InvHoldsAtReset : Prop := Inv State.reset

/-- Every step keeps the invariant: the byte arrays keep their canonical form and size, the counters and bank numbers
stay in range, the CGB-only state stays clear in DMG mode. -/
def Obligations.InvKeptByEveryStep : Prop := ∀ s t : State, Inv s → step s = .next t → Inv t

/-- 70 R800, 60 R542, R560: construct gives a state with the invariant, whatever the ROM, the options, `BootState` and
`initialRam`, and every host operation, restore and sampler pull keeps it. -/
def Obligations.InvFromConstructAndHost : Prop :=
  (∀ (rom : List Byte) (cgb snd : Bool) (boot : BootState) (ram : InitialRam) (s : State),
    construct rom cgb snd boot ram = .ok s → Inv s) ∧
  (∀ (o : HostOp) (s : State), Inv s → Inv (o.apply s)) ∧
  (∀ s : State, Inv s → Inv (update s).2) ∧
  (∀ saved s : State, Inv saved → Inv (restore (snapshot saved) s) ∧ Inv (restoreRecorded (snapshot saved) s))

/-- 10 R32, R38, R63, R66, 20 R105: what no step changes: the ROM, the controller and its battery flag, the mode, the
input mask and the leftover cycles, which only the host's operations change. -/
def Obligations.FixedByEveryStep : Prop :=
  ∀ s t : State, step s = .next t →
    t.cart.rom = s.cart.rom ∧ t.cart.romLength = s.cart.romLength ∧ t.cart.mbc = s.cart.mbc ∧
    t.cart.battery = s.cart.battery ∧ t.cgbMode = s.cgbMode ∧ t.supportMode = s.supportMode ∧
    t.inputMask = s.inputMask ∧ t.frameCarry = s.frameCarry ∧ t.apu.soundEnabled = s.apu.soundEnabled

/-- 60 R548: from a parked state no later step executes an instruction, whatever the PPU, the timer, the sampler and
the host's presses do: the CPU's registers never change, over any step, host operation or whole `update()`. -/
def Obligations.ParkedStaysParked : Prop :=
  (∀ s t : State, Parked s → step s = .next t → t.cpu = s.cpu ∧ t.ie = s.ie ∧ (t.fault = none → Parked t)) ∧
  (∀ (o : HostOp) (s : State), Parked s → (o.apply s).cpu = s.cpu ∧ Parked (o.apply s)) ∧
  (∀ s : State, Parked s →
    (update s).2.cpu = s.cpu ∧ ((update s).2.fault = none → Parked (update s).2))

/-- 62 R720, R730, 20 R107, with equal draws: nothing the CPU can read depends on the sampler: states that differ only in
sound step to states that differ only in sound, and a pull changes nothing but sound. The two states compared have the
same draw counter, so their reads take the same draws, those of the sound registers (R107) among them: log 2. -/
def Obligations.SoundIsInvisible : Prop :=
  (∀ s t : State, SameButSound s t → SameAnswerButSound (step s) (step t)) ∧
  (∀ (k : Nat) (s : State), SameButSound s (pull k s).2)

/-! ## The bus -/

/-- 20 R103, R106: what a read finds at every address, and that a read changes no state: only a draw, where the byte
has bits no state backs, is taken (log 2). -/
def Obligations.ReadMap : Prop :=
  ∀ (a : Word) (s : State),
    (a.toNat < 0x8000 → peek a s = peekRom s.cart a.toNat) ∧
    (0x8000 ≤ a.toNat ∧ a.toNat < 0xA000 →
      peek a s = .ok ⟨s.ppu.vram.get (vramBank s * 0x2000 + (a.toNat - 0x8000)), 0x00⟩) ∧
    (0xA000 ≤ a.toNat ∧ a.toNat < 0xC000 → peek a s = peekCartRam s.cart a.toNat) ∧
    (0xC000 ≤ a.toNat ∧ a.toNat < 0xD000 → peek a s = .ok ⟨s.wram.get (a.toNat - 0xC000), 0x00⟩) ∧
    (0xD000 ≤ a.toNat ∧ a.toNat < 0xE000 →
      peek a s = .ok ⟨s.wram.get (wramBank s * 0x1000 + (a.toNat - 0xD000)), 0x00⟩) ∧
    (0xE000 ≤ a.toNat ∧ a.toNat < 0xFE00 → peek a s = peek (a - 0x2000) s) ∧
    (0xFE00 ≤ a.toNat ∧ a.toNat < 0xFEA0 → peek a s = .ok ⟨s.ppu.oam.get (a.toNat - 0xFE00), 0x00⟩) ∧
    (0xFEA0 ≤ a.toNat ∧ a.toNat < 0xFF00 → peek a s = .ok ⟨0x00, 0xFF⟩) ∧
    (0xFF00 ≤ a.toNat ∧ a.toNat < 0xFF80 → peek a s = .ok (peekIo (loByte a) s)) ∧
    (0xFF80 ≤ a.toNat ∧ a.toNat < 0xFFFF → peek a s = .ok ⟨s.hram.get (a.toNat - 0xFF80), 0x00⟩) ∧
    (a.toNat = 0xFFFF → peek a s = .ok ⟨s.ie, 0x00⟩) ∧
    (∀ r, peek a s = .ok r → busRead a s = .ok (readValue r s) (afterRead r s)) ∧
    (∀ e, peek a s = .error e → busRead a s = .stop e s) ∧
    (∀ r b, peek b (afterRead r s) = peek b s)

/-- 20 R105: what a write does at every address, complete when it answers; a write to the ROM window never changes a
ROM byte. -/
def Obligations.WriteMap : Prop :=
  ∀ (a : Word) (v : Byte) (s : State),
    (a.toNat < 0x8000 →
      busWrite a v s = .ok () { s with cart := cartControl s.cart a.toNat v } ∧
      (cartControl s.cart a.toNat v).rom = s.cart.rom ∧
      (cartControl s.cart a.toNat v).romLength = s.cart.romLength) ∧
    (0x8000 ≤ a.toNat ∧ a.toNat < 0xA000 →
      busWrite a v s =
        .ok () { s with ppu.vram := s.ppu.vram.set (vramBank s * 0x2000 + (a.toNat - 0x8000)) v }) ∧
    (0xA000 ≤ a.toNat ∧ a.toNat < 0xC000 →
      (∀ c, writeCartRam s.cart a.toNat v = .ok c → busWrite a v s = .ok () { s with cart := c }) ∧
      (∀ e, writeCartRam s.cart a.toNat v = .error e → busWrite a v s = .stop e s)) ∧
    (0xC000 ≤ a.toNat ∧ a.toNat < 0xD000 →
      busWrite a v s = .ok () { s with wram := s.wram.set (a.toNat - 0xC000) v }) ∧
    (0xD000 ≤ a.toNat ∧ a.toNat < 0xE000 →
      busWrite a v s = .ok () { s with wram := s.wram.set (wramBank s * 0x1000 + (a.toNat - 0xD000)) v }) ∧
    (0xE000 ≤ a.toNat ∧ a.toNat < 0xFE00 → busWrite a v s = busWrite (a - 0x2000) v s) ∧
    (0xFE00 ≤ a.toNat ∧ a.toNat < 0xFEA0 →
      busWrite a v s = .ok () { s with ppu.oam := s.ppu.oam.set (a.toNat - 0xFE00) v }) ∧
    (0xFEA0 ≤ a.toNat ∧ a.toNat < 0xFF00 → busWrite a v s = .ok () s) ∧
    (0xFF00 ≤ a.toNat ∧ a.toNat < 0xFF80 → busWrite a v s = writeIo (loByte a) v s) ∧
    (0xFF80 ≤ a.toNat ∧ a.toNat < 0xFFFF →
      busWrite a v s = .ok () { s with hram := s.hram.set (a.toNat - 0xFF80) v }) ∧
    (a.toNat = 0xFFFF → busWrite a v s = .ok () { s with ie := v })

/-- 20 R111, R112: `wb` is 1 in DMG mode and SVBK[2:0] in CGB mode, 0 selecting 1; `vb` is 0 in DMG mode and VBK[0] in
CGB mode; 0xE000 to 0xFDFF is the same storage as
0xC000 to 0xDDFF, read and written. -/
def Obligations.WramBankAndEcho : Prop :=
  (∀ s : State, s.cgbMode = false → wramBank s = 1) ∧
  (∀ s : State, s.cgbMode = true → wramBank s = if s.svbk.toNat = 0 then 1 else s.svbk.toNat) ∧
  (∀ s : State, s.cgbMode = false → vramBank s = 0) ∧
  (∀ s : State, s.cgbMode = true → vramBank s = if s.ppu.vbk then 1 else 0) ∧
  (∀ (a : Word) (v : Byte) (s : State), 0xE000 ≤ a.toNat ∧ a.toNat ≤ 0xFDFF →
    peek a s = peek (a - 0x2000) s ∧ busWrite a v s = busWrite (a - 0x2000) v s ∧
    cellOf a s = cellOf (a - 0x2000) s ∧
    (0xF000 ≤ a.toNat → cellOf a s = some (.wram (wramBank s * 0x1000 + (a.toNat - 0xF000)))))

/-- 20 R115, R143, 60 R531, 10 R40 to R61: the read of every I/O register that is backed by state, stored bits and drawn bits. -/
def Obligations.IoReads : Prop :=
  ∀ s : State,
    peek 0xFF00 s = .ok ⟨0#2 ++ s.p1 ++
      ((if s.p1.getLsbD 1 = false then s.inputMask.extractLsb' 0 4 else 0xF#4) &&&
        (if s.p1.getLsbD 0 = false then s.inputMask.extractLsb' 4 4 else 0xF#4)), 0xC0⟩ ∧
    peek 0xFF04 s = .ok ⟨s.timer.div, 0x00⟩ ∧ peek 0xFF05 s = .ok ⟨s.timer.tima, 0x00⟩ ∧
    peek 0xFF06 s = .ok ⟨s.timer.tma, 0x00⟩ ∧ peek 0xFF07 s = .ok ⟨0#5 ++ s.timer.tac, 0xF8⟩ ∧
    peek 0xFF0F s = .ok ⟨0#3 ++ s.ifr, 0xE0⟩ ∧
    (∀ p : Nat, p < 16 → peek (BitVec.ofNat 16 (0xFF30 + p)) s = .ok ⟨s.apu.wave.get p, 0x00⟩) ∧
    (∀ p : Nat, p < 32 → peek (BitVec.ofNat 16 (0xFF10 + p)) s = .ok ⟨0x00, 0xFF⟩) ∧
    peek 0xFF40 s = .ok ⟨s.ppu.lcdc, 0x00⟩ ∧
    peek 0xFF41 s = .ok ⟨0#1 ++ s.ppu.statSel ++ BitVec.ofBool s.ppu.prevCoin ++
      (if s.ppu.lcdc.getLsbD 7 then s.ppu.mode else 0#2), 0x80⟩ ∧
    peek 0xFF42 s = .ok ⟨s.ppu.scy, 0x00⟩ ∧ peek 0xFF43 s = .ok ⟨s.ppu.scx, 0x00⟩ ∧
    peek 0xFF44 s = .ok ⟨s.ppu.ly, 0x00⟩ ∧ peek 0xFF45 s = .ok ⟨s.ppu.lyc, 0x00⟩ ∧
    peek 0xFF46 s = .ok ⟨0x00, 0xFF⟩ ∧ peek 0xFF47 s = .ok ⟨s.ppu.bgp, 0x00⟩ ∧
    peek 0xFF48 s = .ok ⟨s.ppu.obp0, 0x00⟩ ∧ peek 0xFF49 s = .ok ⟨s.ppu.obp1, 0x00⟩ ∧
    peek 0xFF4A s = .ok ⟨s.ppu.wy, 0x00⟩ ∧ peek 0xFF4B s = .ok ⟨s.ppu.wx, 0x00⟩ ∧
    (s.cgbMode = true →
      peek 0xFF4D s = .ok ⟨BitVec.ofBool s.doubleSpeed ++ 0#6 ++ BitVec.ofBool s.speedArmed, 0x7E⟩ ∧
      peek 0xFF4F s = .ok ⟨0#7 ++ BitVec.ofBool s.ppu.vbk, 0xFE⟩ ∧
      (∀ p : Nat, p < 4 → peek (BitVec.ofNat 16 (0xFF51 + p)) s = .ok ⟨0x00, 0xFF⟩) ∧
      peek 0xFF55 s = .ok ⟨if s.hdma.active then BitVec.ofNat 8 (s.hdma.remaining - 1)
        else if s.hdma.remaining = 0 then 0xFF else 0x80 ||| BitVec.ofNat 8 (s.hdma.remaining - 1), 0x00⟩ ∧
      peek 0xFF68 s = .ok ⟨BitVec.ofBool s.ppu.bcps.autoinc ++ 0#1 ++ s.ppu.bcps.index, 0x40⟩ ∧
      peek 0xFF69 s = .ok ⟨s.ppu.bgPal.get s.ppu.bcps.index.toNat, 0x00⟩ ∧
      peek 0xFF6A s = .ok ⟨BitVec.ofBool s.ppu.ocps.autoinc ++ 0#1 ++ s.ppu.ocps.index, 0x40⟩ ∧
      peek 0xFF6B s = .ok ⟨s.ppu.objPal.get s.ppu.ocps.index.toNat, 0x00⟩ ∧
      peek 0xFF70 s = .ok ⟨0#5 ++ s.svbk, 0xF8⟩)

/-- 20 R130, R132: the I/O writes that are more than a store; each takes effect at once, but a cleared LCDC[7] at the
next PPU step. A palette data write stores at the index, then increments a 6-bit index when asked to; a read gives the
byte at the index and increments nothing. -/
def Obligations.IoWriteEffects : Prop :=
  ∀ (v : Byte) (s : State),
    busWrite 0xFF00 v s = .ok () { s with p1 := v.extractLsb' 4 2 } ∧
    busWrite 0xFF04 v s = .ok () { s with timer.div := 0, timer.divAcc := 0 } ∧
    busWrite 0xFF0F v s = .ok () { s with ifr := (v &&& 0x1F).extractLsb' 0 5 } ∧
    busWrite 0xFF41 v s = .ok () { s with ppu.statSel := v.extractLsb' 3 4 } ∧
    busWrite 0xFF44 v s = .ok () s ∧
    busWrite 0xFF40 v s = .ok () { s with ppu.lcdc := v } ∧
    (v.getLsbD 7 = false → ∀ spd c : Nat,
      ppuStep spd c { s with ppu.lcdc := v } =
        .ok () { s with ppu.lcdc := v, ppu.ly := 0, ppu.dot := 0, ppu.mode := 0 }) ∧
    (s.cgbMode = true →
      busWrite 0xFF4D v s = .ok () { s with speedArmed := v.getLsbD 0 } ∧
      busWrite 0xFF4F v s = .ok () { s with ppu.vbk := v.getLsbD 0 } ∧
      busWrite 0xFF68 v s = .ok () { s with ppu.bcps := ⟨v.getLsbD 7, v.extractLsb' 0 6⟩ } ∧
      busWrite 0xFF6A v s = .ok () { s with ppu.ocps := ⟨v.getLsbD 7, v.extractLsb' 0 6⟩ } ∧
      busWrite 0xFF70 v s = .ok () { s with svbk := v.extractLsb' 0 3 } ∧
      busWrite 0xFF69 v s = .ok () { s with
        ppu.bgPal := s.ppu.bgPal.set s.ppu.bcps.index.toNat v
        ppu.bcps := if s.ppu.bcps.autoinc then ⟨true, BitVec.ofNat 6 ((s.ppu.bcps.index.toNat + 1) &&& 0x3F)⟩
                    else s.ppu.bcps } ∧
      busWrite 0xFF6B v s = .ok () { s with
        ppu.objPal := s.ppu.objPal.set s.ppu.ocps.index.toNat v
        ppu.ocps := if s.ppu.ocps.autoinc then ⟨true, BitVec.ofNat 6 ((s.ppu.ocps.index.toNat + 1) &&& 0x3F)⟩
                    else s.ppu.ocps } ∧
      busRead 0xFF69 s = .ok (s.ppu.bgPal.get s.ppu.bcps.index.toNat) s ∧
      busRead 0xFF6B s = .ok (s.ppu.objPal.get s.ppu.ocps.index.toNat) s)

/-- 20 R115, R131, R141: the I/O writes that store a byte or a field, and the addresses that hold nothing: a draw when
read, ignored when written. -/
def Obligations.IoStoresAndUnmapped : Prop :=
  ∀ (v : Byte) (s : State),
    (∀ a : Word, unmappedIo s.cgbMode a → peek a s = .ok ⟨0x00, 0xFF⟩ ∧ busWrite a v s = .ok () s) ∧
    busWrite 0xFF05 v s = .ok () { s with timer.tima := v } ∧
    busWrite 0xFF06 v s = .ok () { s with timer.tma := v } ∧
    (∃ k, busWrite 0xFF07 v s = .ok () { s with timer.tac := v.extractLsb' 0 3, timer.timerCounter := k } ∧
      (k = s.timer.timerCounter ∨
        k = 0 ∧ Config.tacWriteResetsCounter = true ∧ v.extractLsb' 0 2 ≠ s.timer.tac.extractLsb' 0 2) ∧
      (Config.tacWriteResetsCounter = true → v.extractLsb' 0 2 ≠ s.timer.tac.extractLsb' 0 2 → k = 0)) ∧
    (∀ p : Nat, p < 16 →
      busWrite (BitVec.ofNat 16 (0xFF30 + p)) v s = .ok () { s with apu.wave := s.apu.wave.set p v }) ∧
    busWrite 0xFF42 v s = .ok () { s with ppu.scy := v } ∧ busWrite 0xFF43 v s = .ok () { s with ppu.scx := v } ∧
    busWrite 0xFF45 v s = .ok () { s with ppu.lyc := v } ∧ busWrite 0xFF47 v s = .ok () { s with ppu.bgp := v } ∧
    busWrite 0xFF48 v s = .ok () { s with ppu.obp0 := v } ∧ busWrite 0xFF49 v s = .ok () { s with ppu.obp1 := v } ∧
    busWrite 0xFF4A v s = .ok () { s with ppu.wy := v } ∧ busWrite 0xFF4B v s = .ok () { s with ppu.wx := v } ∧
    (s.cgbMode = true →
      busWrite 0xFF51 v s = .ok () { s with hdma.src := v ++ s.hdma.src.extractLsb' 0 8 } ∧
      busWrite 0xFF52 v s = .ok () { s with hdma.src := s.hdma.src.extractLsb' 8 8 ++ v.extractLsb' 4 4 ++ 0#4 } ∧
      busWrite 0xFF53 v s =
        .ok () { s with hdma.dst := 0b100#3 ++ v.extractLsb' 0 5 ++ s.hdma.dst.extractLsb' 0 8 } ∧
      busWrite 0xFF54 v s = .ok () { s with hdma.dst := s.hdma.dst.extractLsb' 8 8 ++ v.extractLsb' 4 4 ++ 0#4 })

/-- 20 R103, R105, R145, R148: a write to plain storage is read back at every address of that storage, and every
address of other storage (ROM and I/O among them) reads as before. Nothing else of the state changes, and no cell of any
bank, selected or not, but the one written. -/
def Obligations.StoredByteReadsBack : Prop :=
  ∀ (a : Word) (v : Byte) (s : State) (c : Cell), ArraysInv s → cellOf a s = some c →
    ∃ t, busWrite a v s = .ok () t ∧
      (∀ x : Word, cellOf x s = some c →
        peek x t = .ok (if byteCell c then ⟨v, 0x00⟩ else ⟨v &&& 0x0F, 0xF0⟩)) ∧
      (∀ x : Word, cellOf x s ≠ some c → peek x t = peek x s) ∧
      cellByte c t = (if byteCell c then v else v &&& 0x0F) ∧ (∀ d : Cell, d ≠ c → cellByte d t = cellByte d s) ∧
      t = { s with ppu.vram := t.ppu.vram, ppu.oam := t.ppu.oam, wram := t.wram, hram := t.hram, ie := t.ie,
                   cart.ram := t.cart.ram, cart.mbc2Ram := t.cart.mbc2Ram, cart.rtcLive := t.cart.rtcLive,
                   cart.rtcLatched := t.cart.rtcLatched }

/-- 20 R140: OAM DMA copies 160 bytes from page v into OAM inside the write, costs no cycles and changes nothing else
(but the draws its reads take). -/
def Obligations.OamDmaCopies : Prop :=
  ∀ (v : Byte) (s : State), s.ppu.oam.wf = true → blockReadable (mkWord v 0) 160 s = true →
    ∃ t, busWrite 0xFF46 v s = .ok () t ∧
      (∀ (i : Nat) (r : ReadBits), i < 160 → peek (BitVec.ofNat 16 (v.toNat * 256 + i)) s = .ok r →
        ∃ d : Byte, t.ppu.oam.get i = r.value ||| (d &&& r.drawn)) ∧
      t = { s with ppu.oam := t.ppu.oam, draws := t.draws }

/-- 20 R142: the three cases of an HDMA5 write and `CopyByte`. -/
def Obligations.HdmaWrite : Prop :=
  (∀ (v : Byte) (s : State), s.cgbMode = true → s.hdma.active = true → v.getLsbD 7 = false →
    busWrite 0xFF55 v s = .ok () { s with hdma.active := false }) ∧
  (∀ (v : Byte) (s : State), s.cgbMode = true → s.hdma.active = false → v.getLsbD 7 = false →
    busWrite 0xFF55 v s = (copyBytes (((v &&& 0x7F).toNat + 1) * 16) s).then
      fun _ t => { t with hdma.remaining := 0, hdma.active := false }) ∧
  (∀ (v : Byte) (s : State), s.cgbMode = true → v.getLsbD 7 = true →
    busWrite 0xFF55 v s =
      .ok () { s with hdma.remaining := (v &&& 0x7F).toNat + 1, hdma.active := true }) ∧
  (∀ (n : Nat) (s : State), copyBytes 0 s = .ok () s ∧
    copyBytes (n + 1) s = (copyByte s).bind fun _ t => copyBytes n t) ∧
  (∀ (s : State) (r : ReadBits), 0x8000 ≤ s.hdma.dst.toNat ∧ s.hdma.dst.toNat < 0xA000 →
    peek s.hdma.src s = .ok r →
    copyByte s = .ok () { afterRead r s with
      ppu.vram := s.ppu.vram.set (vramBank s * 0x2000 + (s.hdma.dst.toNat - 0x8000)) (readValue r s)
      hdma.src := s.hdma.src + 1
      hdma.dst := 0x8000 ||| ((s.hdma.dst + 1) &&& 0x1FFF) }) ∧
  (∀ (s : State) (e : Fault), peek s.hdma.src s = .error e → copyByte s = .stop e s)

/-- 20 R142: a general-purpose transfer as a whole: every source byte outside VRAM lands in the current VRAM bank, the
addresses move on by the length, and nothing else changes; it costs no cycles. For an hdmaDst outside 0x8000 to 0x9FFF,
which no run reaches (UnitsInv.hdmaDst), the place of the first byte is the model's choice (log 15). -/
def Obligations.HdmaTransferCopies : Prop :=
  ∀ (v : Byte) (s : State) (n : Nat), n = ((v &&& 0x7F).toNat + 1) * 16 → s.cgbMode = true →
    s.hdma.active = false → v.getLsbD 7 = false → s.ppu.vram.wf = true → blockReadable s.hdma.src n s = true →
    ∃ t, busWrite 0xFF55 v s = .ok () t ∧
      t.hdma = { src := s.hdma.src + BitVec.ofNat 16 n,
                 dst := 0x8000 ||| ((s.hdma.dst + BitVec.ofNat 16 n) &&& 0x1FFF), remaining := 0, active := false } ∧
      t = { s with ppu.vram := t.ppu.vram, hdma := t.hdma, draws := t.draws } ∧
      (∀ j : Nat, (∀ i < n, j ≠ vramBank s * 0x2000 + ((s.hdma.dst + BitVec.ofNat 16 i) &&& 0x1FFF).toNat) →
        t.ppu.vram.get j = s.ppu.vram.get j) ∧
      ((∀ i < n, (s.hdma.src + BitVec.ofNat 16 i).toNat < 0x8000 ∨ 0xA000 ≤ (s.hdma.src + BitVec.ofNat 16 i).toNat) →
        ∀ (i : Nat) (r : ReadBits), i < n → peek (s.hdma.src + BitVec.ofNat 16 i) s = .ok r →
          ∃ d : Byte, t.ppu.vram.get (vramBank s * 0x2000 + ((s.hdma.dst + BitVec.ofNat 16 i) &&& 0x1FFF).toNat) =
            r.value ||| (d &&& r.drawn))

/-- 20 R143, R144: the read of HDMA5, and the H-blank block: 16 bytes, one block fewer, and the end at 0. -/
def Obligations.HdmaBlockAndStatus : Prop :=
  (∀ s : State, s.cgbMode = true → s.hdma.remaining ≤ 128 →
    (s.hdma.active = true → 1 ≤ s.hdma.remaining →
      peek 0xFF55 s = .ok ⟨BitVec.ofNat 8 (s.hdma.remaining - 1), 0x00⟩ ∧
      (BitVec.ofNat 8 (s.hdma.remaining - 1)).getLsbD 7 = false) ∧
    (s.hdma.active = false → s.hdma.remaining = 0 → peek 0xFF55 s = .ok ⟨0xFF, 0x00⟩) ∧
    (s.hdma.active = false → s.hdma.remaining ≠ 0 →
      peek 0xFF55 s = .ok ⟨BitVec.ofNat 8 (0x80 + (s.hdma.remaining - 1)), 0x00⟩)) ∧
  (∀ s : State, s.hdma.active = false → hdmaHblankBlock s = .ok () s) ∧
  (∀ s : State, s.hdma.active = true → blockReadable s.hdma.src 16 s = true →
    ∃ t u, copyBytes 16 s = .ok () t ∧ hdmaHblankBlock s = .ok () u ∧
      u = { t with hdma.remaining := s.hdma.remaining - 1, hdma.active := decide (s.hdma.remaining - 1 ≠ 0) } ∧
      t.hdma.src = s.hdma.src + 16 ∧ t.hdma.dst = 0x8000 ||| ((s.hdma.dst + 16) &&& 0x1FFF))

/-- 60 R530, R531, R532: a press clears its bit of the mask and requests the joypad interrupt, a release sets the bit
and requests nothing, and P1 reads the selected nibbles ANDed, 0 meaning pressed. -/
def Obligations.Joypad : Prop :=
  (∀ s : State,
    peek 0xFF00 s = .ok ⟨0#2 ++ s.p1 ++
      ((if s.p1.getLsbD 1 = false then s.inputMask.extractLsb' 0 4 else 0xF#4) &&&
        (if s.p1.getLsbD 0 = false then s.inputMask.extractLsb' 4 4 else 0xF#4)), 0xC0⟩) ∧
  (∀ (k : Button) (s : State),
    pressButton k s = { s with inputMask := (pressButton k s).inputMask, ifr := s.ifr ||| 0b10000#5 } ∧
    releaseButton k s = { s with inputMask := (releaseButton k s).inputMask } ∧
    (∀ j : Nat, j < 8 →
      (pressButton k s).inputMask.getLsbD j = (s.inputMask.getLsbD j && decide (j ≠ k.bit)) ∧
      (releaseButton k s).inputMask.getLsbD j = (s.inputMask.getLsbD j || decide (j = k.bit)))) ∧
  ([Button.a, .b, .select, .start, .right, .left, .up, .down].map Button.bit = [0, 1, 2, 3, 4, 5, 6, 7])

/-! ## The cartridge -/

/-- 20 R153: a ROM read gives the byte of the banked index, or the fault where the ROM ends before it. -/
def Obligations.RomReads : Prop :=
  ∀ (a : Word) (s : State) (idx : Nat), a.toNat < 0x8000 →
    idx = (if a.toNat < 0x4000 then a.toNat
           else (if s.cart.mbc = .romOnly then 1 else s.cart.romBank.toNat) * 0x4000 + (a.toNat - 0x4000)) →
    (s.cart.romLength ≤ idx → busRead a s = .stop (.romOutOfRange idx) s) ∧
    (idx < s.cart.romLength → busRead a s = .ok (s.cart.rom.get idx) s)

/-- 20 R156 to R159: the four MBC1 control ranges. -/
def Obligations.Mbc1Control : Prop :=
  ∀ (a : Word) (v : Byte) (s : State), s.cart.mbc = .mbc1 →
    (a.toNat ≤ 0x1FFF →
      (v &&& 0x0F = 0x0A → busWrite a v s = .ok () { s with cart.ramEnabled := true }) ∧
      (v &&& 0x0F = 0x00 → busWrite a v s = .ok () { s with cart.ramEnabled := false }) ∧
      (v &&& 0x0F ≠ 0x0A → v &&& 0x0F ≠ 0x00 → busWrite a v s = .ok () s)) ∧
    (0x2000 ≤ a.toNat ∧ a.toNat ≤ 0x3FFF →
      busWrite a v s = .ok () { s with cart.romBank := skipZero ((s.cart.romBank &&& 0x60) ||| (v &&& 0x1F)) }) ∧
    (0x4000 ≤ a.toNat ∧ a.toNat ≤ 0x5FFF →
      (s.cart.mbc1RamMode = false → busWrite a v s =
        .ok () { s with cart.romBank := skipZero (((v &&& 0x03) <<< 5) ||| (s.cart.romBank &&& 0x1F)) }) ∧
      (s.cart.mbc1RamMode = true → busWrite a v s = .ok () { s with cart.ramBank := v &&& 0x03 })) ∧
    (0x6000 ≤ a.toNat ∧ a.toNat ≤ 0x7FFF →
      (v.getLsbD 0 = false → busWrite a v s = .ok () { s with cart.mbc1RamMode := false, cart.ramBank := 0 }) ∧
      (v.getLsbD 0 = true → busWrite a v s =
        .ok () { s with cart.mbc1RamMode := true, cart.romBank := s.cart.romBank &&& 0x1F }))

/-- 20 R155, R161, R162, R164 to R167, R169: the control writes of the ROM-only controller, MBC2 (address bit 8
selects), MBC3 (with the RTC latch) and MBC5 (no zero-skip, no ninth bank bit), and MBC5's RAM target. -/
def Obligations.OtherControllers : Prop :=
  (∀ (a : Word) (v : Byte) (s : State), s.cart.mbc = .romOnly → a.toNat ≤ 0x7FFF → busWrite a v s = .ok () s) ∧
  (∀ (a : Word) (v : Byte) (s : State), s.cart.mbc = .mbc2 →
    (a.toNat ≤ 0x1FFF →
      (a.getLsbD 8 = true → busWrite a v s = .ok () s) ∧
      (a.getLsbD 8 = false → v &&& 0x0F = 0x0A → busWrite a v s = .ok () { s with cart.ramEnabled := true }) ∧
      (a.getLsbD 8 = false → v &&& 0x0F = 0x00 → busWrite a v s = .ok () { s with cart.ramEnabled := false }) ∧
      (v &&& 0x0F ≠ 0x0A → v &&& 0x0F ≠ 0x00 → busWrite a v s = .ok () s)) ∧
    (0x2000 ≤ a.toNat ∧ a.toNat ≤ 0x3FFF →
      (a.getLsbD 8 = false → busWrite a v s = .ok () s) ∧
      (a.getLsbD 8 = true → busWrite a v s =
        .ok () { s with cart.romBank := if v &&& 0x0F = 0 then 1 else v &&& 0x0F })) ∧
    (0x4000 ≤ a.toNat ∧ a.toNat ≤ 0x7FFF → busWrite a v s = .ok () s)) ∧
  (∀ (a : Word) (v : Byte) (s : State), s.cart.mbc = .mbc3 →
    (a.toNat ≤ 0x1FFF → busWrite a v s = .ok () { s with cart.ramEnabled := decide (v &&& 0x0A ≠ 0) }) ∧
    (0x2000 ≤ a.toNat ∧ a.toNat ≤ 0x3FFF → busWrite a v s =
      .ok () { s with cart.romBank := if v &&& 0x7F = 0 then 1 else v &&& 0x7F }) ∧
    (0x4000 ≤ a.toNat ∧ a.toNat ≤ 0x5FFF → busWrite a v s = .ok () { s with cart.ramBank := v }) ∧
    (0x6000 ≤ a.toNat ∧ a.toNat ≤ 0x7FFF →
      (v = 0x01 → busWrite a v s = .ok () { s with cart.rtcIsLatched := false }) ∧
      (v = 0x00 → busWrite a v s =
        .ok () { s with cart.rtcIsLatched := true, cart.rtcLive := s.cart.rtcLatched }) ∧
      (v ≠ 0x00 → v ≠ 0x01 → busWrite a v s = .ok () s))) ∧
  (∀ (a : Word) (v : Byte) (s : State), s.cart.mbc = .mbc5 →
      (a.toNat ≤ 0x1FFF →
        (v &&& 0x0F = 0x0A → busWrite a v s = .ok () { s with cart.ramEnabled := true }) ∧
        (v &&& 0x0F = 0x00 → busWrite a v s = .ok () { s with cart.ramEnabled := false }) ∧
        (v &&& 0x0F ≠ 0x0A → v &&& 0x0F ≠ 0x00 → busWrite a v s = .ok () s)) ∧
      (0x2000 ≤ a.toNat ∧ a.toNat ≤ 0x3FFF → busWrite a v s = .ok () { s with cart.romBank := v }) ∧
      (0x4000 ≤ a.toNat ∧ a.toNat ≤ 0x5FFF → busWrite a v s = .ok () { s with cart.ramBank := v &&& 0x0F }) ∧
      (0x6000 ≤ a.toNat ∧ a.toNat ≤ 0x7FFF → busWrite a v s = .ok () s) ∧
      (0xA000 ≤ a.toNat ∧ a.toNat ≤ 0xBFFF →
        (s.cart.ramEnabled = true →
          peek a s = .ok ⟨s.cart.ram.get (s.cart.ramBank.toNat * 0x2000 + (a.toNat - 0xA000)), 0x00⟩ ∧
          busWrite a v s = .ok () { s with
            cart.ram := s.cart.ram.set (s.cart.ramBank.toNat * 0x2000 + (a.toNat - 0xA000)) v }) ∧
        (s.cart.ramEnabled = false → peek a s = .ok ⟨0x00, 0xFF⟩ ∧ busWrite a v s = .ok () s)))

/-- 20 R154, R160, R163, R168: the RAM window of every other controller: a draw and an ignored write without RAM or
while RAM is disabled, else the controller's target; the fault of a missing RTC register. -/
def Obligations.CartridgeRam : Prop :=
  ∀ (a : Word) (v : Byte) (s : State), 0xA000 ≤ a.toNat ∧ a.toNat ≤ 0xBFFF →
    (s.cart.mbc = .romOnly ∨ s.cart.ramEnabled = false →
      peek a s = .ok ⟨0x00, 0xFF⟩ ∧ busWrite a v s = .ok () s) ∧
    (s.cart.ramEnabled = true →
      (s.cart.mbc = .mbc1 →
        peek a s = .ok ⟨s.cart.ram.get (s.cart.ramBank.toNat * 0x2000 + (a.toNat - 0xA000)), 0x00⟩ ∧
        busWrite a v s = .ok () { s with
          cart.ram := s.cart.ram.set (s.cart.ramBank.toNat * 0x2000 + (a.toNat - 0xA000)) v }) ∧
      (s.cart.mbc = .mbc2 →
        peek a s = .ok ⟨s.cart.mbc2Ram.get ((a.toNat - 0xA000) &&& 0x1FF) &&& 0x0F, 0xF0⟩ ∧
        busWrite a v s = .ok () { s with
          cart.mbc2Ram := s.cart.mbc2Ram.set ((a.toNat - 0xA000) &&& 0x1FF) (v &&& 0x0F) }) ∧
      (s.cart.mbc = .mbc3 → s.cart.ramBank.toNat < 4 →
        peek a s = .ok ⟨s.cart.ram.get (s.cart.ramBank.toNat * 0x2000 + (a.toNat - 0xA000)), 0x00⟩ ∧
        busWrite a v s = .ok () { s with
          cart.ram := s.cart.ram.set (s.cart.ramBank.toNat * 0x2000 + (a.toNat - 0xA000)) v }) ∧
      (s.cart.mbc = .mbc3 → 4 ≤ s.cart.ramBank.toNat ∧ s.cart.ramBank.toNat ≤ 0x0F →
        (s.cart.rtcIsLatched = true →
          peek a s = .ok ⟨s.cart.rtcLatched.get s.cart.ramBank.toNat, 0x00⟩ ∧
          busWrite a v s = .ok () { s with cart.rtcLatched := s.cart.rtcLatched.set s.cart.ramBank.toNat v }) ∧
        (s.cart.rtcIsLatched = false →
          peek a s = .ok ⟨s.cart.rtcLive.get s.cart.ramBank.toNat, 0x00⟩ ∧
          busWrite a v s = .ok () { s with cart.rtcLive := s.cart.rtcLive.set s.cart.ramBank.toNat v })) ∧
      (s.cart.mbc = .mbc3 → 0x0F < s.cart.ramBank.toNat →
        busRead a s = .stop (.rtcIndexOutOfRange s.cart.ramBank) s ∧
        busWrite a v s = .stop (.rtcIndexOutOfRange s.cart.ramBank) s))

/-- 70 R800, R802, 20 R151, R152, 10 R28 to R66: construct refuses a short ROM; else the controller, the battery flag and
the mode are those of the header bytes, and every state item has its reset value; the default `BootState` of each mode
(10 R62, R70); State.reset is such a state, with the DMG register values. (DIV and the contents of RAM are arguments of
construct, a list shorter than its array going on with 0x00: logs 3 and 5. The byte at 0xFF1F is log 7's. The
LFSR starts at 0 (10 R65) or 0x7FFF (62 R720), by an argument of construct: log 21.) -/
def Obligations.ConstructAndReset : Prop :=
  (∀ t : Byte,
    mbcOfHeader t =
      if t = 0x00 ∨ t = 0x08 ∨ t = 0x09 ∨ (0x0B ≤ t ∧ t ≤ 0x0D) then .romOnly
      else if 0x01 ≤ t ∧ t ≤ 0x03 then .mbc1
      else if 0x04 ≤ t ∧ t ≤ 0x06 then .mbc2
      else if t = 0x07 ∨ t = 0x0A ∨ (0x0E ≤ t ∧ t ≤ 0x13) then .mbc3
      else if 0x14 ≤ t ∧ t ≤ 0x16 then .mbc1
      else if 0x17 ≤ t ∧ t ≤ 0x1E then .mbc5
      else .mbc1) ∧
  (∀ t : Byte, batteryOfHeader t = true ↔
    t = 0x03 ∨ t = 0x06 ∨ t = 0x09 ∨ t = 0x0D ∨ t = 0x0F ∨ t = 0x10 ∨ t = 0x13 ∨ t = 0x17 ∨ t = 0x1B ∨ t = 0x1E ∨
    t = 0xFF) ∧
  (∀ h : Byte, supportOfHeader h = if h = 0x80 then .dmgCgbCapable else if h = 0xC0 then .cgbOnly else .dmgOnly) ∧
  (∀ (q : Bool) (m : SupportMode), cgbModeOf q m = true ↔ q = true ∧ m ≠ .dmgOnly) ∧
  (∀ (rom : List Byte) (q snd : Bool) (boot : BootState) (ram : InitialRam),
    (rom.length < 0x150 → construct rom q snd boot ram = .error .headerTooShort) ∧
    (0x150 ≤ rom.length → ∃ s, construct rom q snd boot ram = .ok s ∧
      (∀ k, s.cart.rom.get k = rom.getD k 0x00) ∧ s.cart.romLength = rom.length ∧
      s.cart.mbc = mbcOfHeader (rom.getD 0x147 0x00) ∧ s.cart.battery = batteryOfHeader (rom.getD 0x147 0x00) ∧
      s.supportMode = supportOfHeader (rom.getD 0x143 0x00) ∧
      s.cgbMode = cgbModeOf q (supportOfHeader (rom.getD 0x143 0x00)) ∧ s.apu.soundEnabled = snd ∧
      s.cpu = ⟨boot.a, boot.f, boot.b, boot.c, boot.d, boot.e, boot.h, boot.l, boot.sp, boot.pc, false, false, false⟩ ∧
      s.timer = ⟨boot.div, 0x00, 0x00, 0, 0, 0⟩ ∧ s.hdma = ⟨0x0000, 0x8000, 0, false⟩ ∧
      s.cart.romBank = 1 ∧ s.cart.ramBank = 0 ∧ s.cart.ramEnabled = false ∧ s.cart.mbc1RamMode = false ∧
      s.cart.rtcLive = [] ∧ s.cart.rtcLatched = [] ∧ s.cart.rtcIsLatched = false ∧
      s.ppu.lcdc = 0x91 ∧ s.ppu.statSel = 0 ∧ s.ppu.scy = 0x00 ∧ s.ppu.scx = 0x00 ∧ s.ppu.ly = 0 ∧ s.ppu.lyc = 0x00 ∧
      s.ppu.bgp = 0xFC ∧ s.ppu.obp0 = boot.obp0 ∧ s.ppu.obp1 = boot.obp1 ∧ s.ppu.wy = 0x00 ∧ s.ppu.wx = 0x00 ∧
      s.ppu.vbk = false ∧ s.ppu.dot = 0 ∧ s.ppu.mode = 2 ∧ s.ppu.prevCoin = true ∧
      (∀ y, Frame.row s.ppu.screen y = List.replicate 160 .black ∧
        Frame.row s.ppu.prepared y = List.replicate 160 .black) ∧
      s.svbk = 0 ∧ s.ifr = (if boot.if0 then 1 else 0) ∧ s.ie = 0x00 ∧ s.p1 = 0 ∧ s.inputMask = 0xFF ∧
      s.doubleSpeed = false ∧ s.speedArmed = false ∧ s.frameCarry = 0 ∧ s.fault = none ∧
      s.ppu.bcps = ⟨false, 0⟩ ∧ s.ppu.ocps = ⟨false, 0⟩ ∧
      s.ppu.bgIndex = List.replicate 160 0 ∧ s.ppu.bgAttrPrio = List.replicate 160 false ∧
      (∀ k < 23, s.apu.regs.get (0x10 + k) = boot.apu.getD k 0x00) ∧
      (∀ n : Chan, s.apu.chan n =
        { kind := if n = .three then .wave else if n = .four then .noise else .square, on := false, freqHz := 0,
          amplitude := 0, duration := some 0, envStep := 0, envTarget := 0, envSamplesPerStep := 0, envDir := false,
          sweepLen := 0, sweepSteps := 0, sweepDir := false, sweepCount := 0, shadow := 0, duty := 0, phase := 0 }) ∧
      s.apu.lfsr = (if boot.lfsr = .zero then 0 else 0x7FFF) ∧ s.apu.narrow = false ∧
      (∀ k < 0x20000, s.cart.ram.get k = ram.cartRam.getD k 0x00) ∧
      (∀ k < 512, s.cart.mbc2Ram.get k = ram.mbc2Ram.getD k 0x00 &&& 0x0F) ∧
      (∀ k < 0x8000, s.wram.get k = ram.wram.getD k 0x00) ∧ (∀ k < 0x4000, s.ppu.vram.get k = ram.vram.getD k 0x00) ∧
      (∀ k < 160, s.ppu.oam.get k = ram.oam.getD k 0x00) ∧ (∀ k < 127, s.hram.get k = ram.hram.getD k 0x00) ∧
      (∀ k < 16, s.apu.wave.get k = ram.wave.getD k 0x00) ∧ (∀ k < 64, s.ppu.bgPal.get k = ram.bgPal.getD k 0x00) ∧
      (∀ k < 64, s.ppu.objPal.get k = ram.objPal.getD k 0x00))) ∧
  (∀ d : Byte, defaultBoot false d =
      ⟨0x01, ⟨true, false, true, true⟩, 0x00, 0x13, 0x00, 0xD8, 0x01, 0x4D, 0xFFFE, 0x0100, d, true, 0xFF, 0xFF, bootApu,
        .ones⟩ ∧
    defaultBoot true d =
      ⟨0x11, ⟨true, false, false, false⟩, 0x00, 0x00, 0xFF, 0x56, 0x00, 0x0D, 0xFFFE, 0x0100, d, true, 0xFF, 0xFF,
        bootApu, .ones⟩) ∧
  (bootApu = [0x80, 0xBF, 0xF3, 0xFF, 0xBF] ++ [0x00, 0x3F, 0x00, 0xFF, 0xBF] ++ [0x7F, 0xFF, 0x9F, 0xFF, 0xBF] ++
    [0x00, 0xFF, 0x00, 0x00, 0xBF] ++ [0x77, 0xF3, 0xF1]) ∧
  (State.reset.cpu = ⟨0x01, ⟨true, false, true, true⟩, 0x00, 0x13, 0x00, 0xD8, 0x01, 0x4D, 0xFFFE, 0x0100, false, false,
      false⟩ ∧
    State.reset.ie = 0x00 ∧ State.reset.ifr = 1 ∧ State.reset.ppu.lcdc = 0x91 ∧ State.reset.timer.tac = 0 ∧
    State.reset.ppu.obp0 = 0xFF ∧ State.reset.ppu.obp1 = 0xFF ∧ State.reset.cart.romBank = 1 ∧
    State.reset.fault = none)

/-! ## Arithmetic -/

/-- 41 R250 to R252: ADD and ADC, every form: the sum mod 256 and the four flags. -/
def Obligations.AddAndAdc : Prop :=
  AluForms .add (addEffect fun _ => false) ∧ AluForms .adc (addEffect fun s => s.cpu.f.c)

/-- 41 R250, R253, R254, R258: SUB, SBC and CP, every form; CP writes no register. -/
def Obligations.SubSbcAndCp : Prop :=
  AluForms .sub (subEffect fun _ => false) ∧ AluForms .sbc (subEffect fun s => s.cpu.f.c) ∧
  AluForms .cp (fun v s => { s with cpu.f := subFlags s.cpu.a v false })

/-- 41 R250, R255 to R257: AND, XOR and OR, every form. -/
def Obligations.AndXorAndOr : Prop :=
  AluForms .and (logicEffect (· &&& ·) true) ∧ AluForms .xor (logicEffect (· ^^^ ·) false) ∧
  AluForms .or (logicEffect (· ||| ·) false)

/-- 41 R259 to R262: INC and DEC of a register and of the byte at HL: C is kept, one read and one write. -/
def Obligations.IncrementAndDecrement : Prop :=
  (∀ q : Reg8, Encodes [0b00#2 ++ regBits q ++ 0b100#3] (incInstr q.toR8) ∧
    Encodes [0b00#2 ++ regBits q ++ 0b101#3] (decInstr q.toR8)) ∧
  Encodes [0x34] .inc_atHL ∧ Encodes [0x35] .dec_atHL ∧
  (∀ (q : Reg8) (s : State),
    exec (incInstr q.toR8) s = .next { setReg q (getReg q s + 1) s with
      cpu.f := { s.cpu.f with z := decide (getReg q s + 1 = 0), n := false,
                              h := decide (getReg q s &&& 0x0F = 0x0F) }, cost := 4 } ∧
    exec (decInstr q.toR8) s = .next { setReg q (getReg q s - 1) s with
      cpu.f := { s.cpu.f with z := decide (getReg q s - 1 = 0), n := true,
                              h := decide (getReg q s &&& 0x0F = 0x00) }, cost := 4 }) ∧
  (∀ (s : State) (r : ReadBits) (v : Byte), peek (getHL s) s = .ok r → v = readValue r s →
    (writable (getHL s) (v + 1) s = true →
      ∃ t, busWrite (getHL s) (v + 1) { afterRead r s with
          cpu.f := { s.cpu.f with z := decide (v + 1 = 0), n := false, h := decide (v &&& 0x0F = 0x0F) } } = .ok () t ∧
        exec .inc_atHL s = .next { t with cost := 12 }) ∧
    (writable (getHL s) (v - 1) s = true →
      ∃ t, busWrite (getHL s) (v - 1) { afterRead r s with
          cpu.f := { s.cpu.f with z := decide (v - 1 = 0), n := true, h := decide (v &&& 0x0F = 0x00) } } = .ok () t ∧
        exec .dec_atHL s = .next { t with cost := 12 }) ∧
    (∀ (e : Fault) (t : State),
      (busWrite (getHL s) (v + 1) { afterRead r s with
          cpu.f := { s.cpu.f with z := decide (v + 1 = 0), n := false, h := decide (v &&& 0x0F = 0x0F) } } = .stop e t →
        exec .inc_atHL s = .next { t with fault := some e }) ∧
      (busWrite (getHL s) (v - 1) { afterRead r s with
          cpu.f := { s.cpu.f with z := decide (v - 1 = 0), n := true, h := decide (v &&& 0x0F = 0x00) } } = .stop e t →
        exec .dec_atHL s = .next { t with fault := some e }))) ∧
  (∀ (s : State) (e : Fault), peek (getHL s) s = .error e →
    exec .inc_atHL s = .next { s with fault := some e } ∧ exec .dec_atHL s = .next { s with fault := some e })

/-- 41 R263 to R266: DAA, CPL, SCF and CCF. -/
def Obligations.DaaCplScfCcf : Prop :=
  Encodes [0x27] .daa ∧ Encodes [0x2F] .cpl ∧ Encodes [0x37] .scf ∧ Encodes [0x3F] .ccf ∧
  ∀ s : State,
    exec .daa s = .next { s with
      cpu.a := (daaSpec s.cpu.a s.cpu.f).1
      cpu.f := { z := decide ((daaSpec s.cpu.a s.cpu.f).1 = 0), n := s.cpu.f.n, h := false,
                 c := (daaSpec s.cpu.a s.cpu.f).2 }
      cost := 4 } ∧
    exec .cpl s = .next { s with cpu.a := ~~~s.cpu.a, cpu.f := { s.cpu.f with n := true, h := true }, cost := 4 } ∧
    exec .scf s = .next { s with cpu.f := { s.cpu.f with n := false, h := false, c := true }, cost := 4 } ∧
    exec .ccf s = .next { s with cpu.f := { s.cpu.f with n := false, h := false, c := !s.cpu.f.c }, cost := 4 }

/-- 41 R251 to R254, R263: what DAA is for: after an addition or subtraction of two-digit BCD numbers, with or without a
carry in, DAA leaves the BCD sum or difference mod 100 in A and the decimal carry or borrow in C. -/
def Obligations.DaaGivesDecimalResults : Prop :=
  ∀ (x y : Nat) (s : State), x < 100 → y < 100 → s.cpu.a = bcd x →
    (∃ t u, exec (.adc_a_n8 (bcd y)) s = .next t ∧ exec .daa t = .next u ∧
      u.cpu.a = bcd ((x + y + s.cpu.f.c.toNat) % 100) ∧ u.cpu.f.c = decide (100 ≤ x + y + s.cpu.f.c.toNat) ∧
      u.cpu.f.z = decide ((x + y + s.cpu.f.c.toNat) % 100 = 0)) ∧
    (∃ t u, exec (.sbc_a_n8 (bcd y)) s = .next t ∧ exec .daa t = .next u ∧
      u.cpu.a = bcd ((x + 100 - y - s.cpu.f.c.toNat) % 100) ∧ u.cpu.f.c = decide (x < y + s.cpu.f.c.toNat) ∧
      u.cpu.f.z = decide ((x + 100 - y - s.cpu.f.c.toNat) % 100 = 0))

/-- 42 R300 to R303: INC rr, DEC rr, ADD HL,rr and ADD SP,e8. -/
def Obligations.Arithmetic16 : Prop :=
  (∀ p : Rr, Encodes [0b00#2 ++ rrBits p ++ 0b0011#4] (incRrInstr p) ∧
    Encodes [0b00#2 ++ rrBits p ++ 0b1011#4] (decRrInstr p) ∧
    Encodes [0b00#2 ++ rrBits p ++ 0b1001#4] (addHlInstr p)) ∧
  (∀ e : Byte, Encodes [0xE8, e] (.add_sp_e8 e)) ∧
  (∀ (p : Rr) (s : State),
    exec (incRrInstr p) s = .next { setRr p (BitVec.ofNat 16 ((getRr p s).toNat + 1)) s with cost := 8 } ∧
    exec (decRrInstr p) s = .next { setRr p (BitVec.ofNat 16 ((getRr p s).toNat + 0xFFFF)) s with cost := 8 } ∧
    exec (addHlInstr p) s = .next { setRr .hl (BitVec.ofNat 16 ((getHL s).toNat + (getRr p s).toNat)) s with
      cpu.f := { z := s.cpu.f.z, n := false,
                 h := decide (((getHL s).toNat &&& 0x0FFF) + ((getRr p s).toNat &&& 0x0FFF) > 0x0FFF),
                 c := decide ((getHL s).toNat + (getRr p s).toNat > 0xFFFF) }
      cost := 8 }) ∧
  (∀ (e : Byte) (s : State),
    exec (.add_sp_e8 e) s = .next { s with
      cpu.sp := BitVec.ofInt 16 (s.cpu.sp.toNat + e.toInt)
      cpu.f := { z := false, n := false, h := decide ((s.cpu.sp.toNat &&& 0x0F) + (e.toNat &&& 0x0F) > 0x0F),
                 c := decide ((s.cpu.sp.toNat &&& 0xFF) + e.toNat > 0xFF) }
      cost := 16 })

/-! ## Rotates, shifts and bits -/

/-- 43 R330 to R333, R335 to R342: the accumulator rotates (Z cleared whatever the result) and the CB rotates, shifts
and SWAP on every accessor (Z from the result). -/
def Obligations.RotatesAndShifts : Prop :=
  (Encodes [0x07] .rlca ∧ Encodes [0x0F] .rrca ∧ Encodes [0x17] .rla ∧ Encodes [0x1F] .rra) ∧
  (∀ (op : RotOp) (r : R8), Encodes [0xCB, 0b00#2 ++ rotBits op ++ r8Bits r] (rotInstr op r)) ∧
  (∀ s : State,
    exec .rlca s = .next { s with
      cpu.a := s.cpu.a.rotateLeft 1, cpu.f := onlyCarry (s.cpu.a.getLsbD 7), cost := 4 } ∧
    exec .rrca s = .next { s with
      cpu.a := s.cpu.a.rotateRight 1, cpu.f := onlyCarry (s.cpu.a.getLsbD 0), cost := 4 } ∧
    exec .rla s = .next { s with
      cpu.a := BitVec.ofNat 8 (2 * s.cpu.a.toNat + s.cpu.f.c.toNat), cpu.f := onlyCarry (s.cpu.a.getLsbD 7),
      cost := 4 } ∧
    exec .rra s = .next { s with
      cpu.a := BitVec.ofNat 8 (s.cpu.a.toNat / 2 + 128 * s.cpu.f.c.toNat), cpu.f := onlyCarry (s.cpu.a.getLsbD 0),
      cost := 4 }) ∧
  (∀ (op : RotOp) (r : R8),
    ReadsModifies (rotInstr op r) r (fun v f => (rotSpec op v f.c).1)
      (fun v f => { z := decide ((rotSpec op v f.c).1 = 0), n := false, h := false, c := (rotSpec op v f.c).2 }))

/-- 43 R343 to R345: BIT (one read, no write), RES and SET on every bit and accessor. -/
def Obligations.CbBitResSet : Prop :=
  ∀ (b : BitVec 3) (r : R8),
    Encodes [0xCB, 0b01#2 ++ b ++ r8Bits r] (bitInstr b r) ∧ Encodes [0xCB, 0b10#2 ++ b ++ r8Bits r] (resInstr b r) ∧
    Encodes [0xCB, 0b11#2 ++ b ++ r8Bits r] (setInstr b r) ∧
    ReadsModifies (resInstr b r) r (fun v _ => v &&& ~~~((1 : Byte) <<< b.toNat)) (fun _ f => f) ∧
    ReadsModifies (setInstr b r) r (fun v _ => v ||| ((1 : Byte) <<< b.toNat)) (fun _ f => f) ∧
    (∀ (q : Reg8) (s : State), r.reg = some q →
      exec (bitInstr b r) s = .next { s with
        cpu.f := { z := !(getReg q s).getLsbD b.toNat, n := false, h := true, c := s.cpu.f.c }, cost := 8 }) ∧
    (∀ (s : State) (x : ReadBits), r.reg = none → peek (getHL s) s = .ok x →
      exec (bitInstr b r) s = .next { afterRead x s with
        cpu.f := { z := !(readValue x s).getLsbD b.toNat, n := false, h := true, c := s.cpu.f.c }, cost := 12 }) ∧
    (∀ (s : State) (e : Fault), r.reg = none → peek (getHL s) s = .error e →
      exec (bitInstr b r) s = .next { s with fault := some e })

/-! ## Loads, stores and the stack -/

/-- 40 R200, R201, R219, R221, R222: the loads that touch no memory. -/
def Obligations.RegisterLoads : Prop :=
  (∀ q r : Reg8, Encodes [0b01#2 ++ regBits q ++ regBits r] (ldInstr q.toR8 r.toR8)) ∧
  (∀ (q : Reg8) (n : Byte), Encodes [0b00#2 ++ regBits q ++ 0b110#3, n] (ldImmInstr q.toR8 n)) ∧
  (∀ (p : Rr) (lo hi : Byte), Encodes [0b00#2 ++ rrBits p ++ 0b0001#4, lo, hi] (ldRrInstr p (hi ++ lo))) ∧
  Encodes [0xF9] .ld_sp_hl ∧ (∀ e : Byte, Encodes [0xF8, e] (.ld_hl_spE8 e)) ∧
  (∀ (q r : Reg8) (s : State),
    exec (ldInstr q.toR8 r.toR8) s = .next { setReg q (getReg r s) s with cost := 4 }) ∧
  (∀ (q : Reg8) (n : Byte) (s : State), exec (ldImmInstr q.toR8 n) s = .next { setReg q n s with cost := 8 }) ∧
  (∀ (p : Rr) (n : Word) (s : State), exec (ldRrInstr p n) s = .next { setRr p n s with cost := 12 }) ∧
  (∀ s : State, exec .ld_sp_hl s = .next { s with cpu.sp := s.cpu.h ++ s.cpu.l, cost := 8 }) ∧
  (∀ (e : Byte) (s : State),
    exec (.ld_hl_spE8 e) s = .next { setRr .hl (BitVec.ofInt 16 (s.cpu.sp.toNat + e.toInt)) s with
      cpu.f := { z := false, n := false, h := decide ((s.cpu.sp.toNat &&& 0x0F) + (e.toNat &&& 0x0F) > 0x0F),
                 c := decide ((s.cpu.sp.toNat &&& 0xFF) + e.toNat > 0xFF) }
      cost := 12 }) ∧
  (∀ (q r : Reg8) (v : Byte) (s : State), getReg r (setReg q v s) = if r = q then v else getReg r s) ∧
  (∀ (p q : Rr) (v : Word) (s : State), getRr q (setRr p v s) = if q = p then v else getRr q s)

/-- 40 R202, R205, R206, R209, R211, R213, R217, R218: the loads from memory, with their addresses and costs; the
auto-increment and auto-decrement forms move HL after the read. -/
def Obligations.MemoryLoads : Prop :=
  (∀ q : Reg8, Encodes [0b01#2 ++ regBits q ++ 0b110#3] (ldInstr q.toR8 .atHL)) ∧
  Encodes [0x0A] .ld_a_atBC ∧ Encodes [0x1A] .ld_a_atDE ∧ Encodes [0xF2] .ld_a_atC ∧ Encodes [0x2A] .ld_a_atHLI ∧
  Encodes [0x3A] .ld_a_atHLD ∧ (∀ n : Byte, Encodes [0xF0, n] (.ldh_a_atA8 n)) ∧
  (∀ lo hi : Byte, Encodes [0xFA, lo, hi] (.ld_a_atA16 (hi ++ lo))) ∧
  (∀ q : Reg8, LoadsFrom (ldInstr q.toR8 .atHL) q getHL 8) ∧
  LoadsFrom .ld_a_atBC .a getBC 8 ∧ LoadsFrom .ld_a_atDE .a getDE 8 ∧
  (∀ a : Word, LoadsFrom (.ld_a_atA16 a) .a (fun _ => a) 16) ∧
  (∀ n : Byte, LoadsFrom (.ldh_a_atA8 n) .a (fun _ => 0xFF#8 ++ n) 12) ∧
  LoadsFrom .ld_a_atC .a (fun s => 0xFF#8 ++ s.cpu.c) 8 ∧
  (∀ (s : State) (r : ReadBits), peek (getHL s) s = .ok r →
    exec .ld_a_atHLI s = .next { setRr .hl (getHL s + 1) (afterRead r s) with cpu.a := readValue r s, cost := 8 } ∧
    exec .ld_a_atHLD s = .next { setRr .hl (getHL s - 1) (afterRead r s) with cpu.a := readValue r s, cost := 8 }) ∧
  (∀ (s : State) (e : Fault), peek (getHL s) s = .error e →
    exec .ld_a_atHLI s = .next { s with fault := some e } ∧ exec .ld_a_atHLD s = .next { s with fault := some e })

/-- 40 R203, R204, R207, R208, R210, R212, R214 to R216: the stores of a byte, with their addresses and costs; no
register and no flag changes but HL in the auto-increment and auto-decrement forms. -/
def Obligations.MemoryStores : Prop :=
  (∀ q : Reg8, Encodes [0b01#2 ++ 0b110#3 ++ regBits q] (ldInstr .atHL q.toR8)) ∧
  (∀ n : Byte, Encodes [0x36, n] (.ld_atHL_n8 n) ∧ Encodes [0xE0, n] (.ldh_atA8_a n)) ∧
  Encodes [0x02] .ld_atBC_a ∧ Encodes [0x12] .ld_atDE_a ∧ Encodes [0xE2] .ld_atC_a ∧ Encodes [0x22] .ld_atHLI_a ∧
  Encodes [0x32] .ld_atHLD_a ∧ (∀ lo hi : Byte, Encodes [0xEA, lo, hi] (.ld_atA16_a (hi ++ lo))) ∧
  (∀ q : Reg8, StoresAt (ldInstr .atHL q.toR8) getHL (getReg q) 8) ∧
  (∀ n : Byte, StoresAt (.ld_atHL_n8 n) getHL (fun _ => n) 12) ∧
  StoresAt .ld_atBC_a getBC (fun s => s.cpu.a) 8 ∧ StoresAt .ld_atDE_a getDE (fun s => s.cpu.a) 8 ∧
  (∀ a : Word, StoresAt (.ld_atA16_a a) (fun _ => a) (fun s => s.cpu.a) 16) ∧
  (∀ n : Byte, StoresAt (.ldh_atA8_a n) (fun _ => 0xFF#8 ++ n) (fun s => s.cpu.a) 12) ∧
  StoresAt .ld_atC_a (fun s => 0xFF#8 ++ s.cpu.c) (fun s => s.cpu.a) 8 ∧
  (∀ s : State, writable (getHL s) s.cpu.a s = true →
    ∃ t, busWrite (getHL s) s.cpu.a s = .ok () t ∧ t.cpu = s.cpu ∧ t.fault = s.fault ∧
      exec .ld_atHLI_a s = .next { setRr .hl (getHL s + 1) t with cost := 8 } ∧
      exec .ld_atHLD_a s = .next { setRr .hl (getHL s - 1) t with cost := 8 }) ∧
  (∀ (s t : State) (e : Fault), busWrite (getHL s) s.cpu.a s = .stop e t →
    exec .ld_atHLI_a s = .next { t with fault := some e } ∧ exec .ld_atHLD_a s = .next { t with fault := some e })

/-- 20 R105, 40 R203 to R216, R220, R223, 41 R260, R262, 43 R334, 44 R376, R377, R380: the frame of every instruction
that stores, in memory and in every register of the machine: the stores of a byte, the instructions that modify the byte
at HL, and those that store a word. The address is the one the instruction's own rule gives. -/
def Obligations.StoreFrame : Prop :=
  (∀ q : Reg8, StoreFrameOf (ldInstr .atHL q.toR8) getHL (getReg q) (·.cpu)) ∧
  (∀ n : Byte, StoreFrameOf (.ld_atHL_n8 n) getHL (fun _ => n) (·.cpu)) ∧
  StoreFrameOf .ld_atBC_a getBC (·.cpu.a) (·.cpu) ∧ StoreFrameOf .ld_atDE_a getDE (·.cpu.a) (·.cpu) ∧
  (∀ a : Word, StoreFrameOf (.ld_atA16_a a) (fun _ => a) (·.cpu.a) (·.cpu)) ∧
  (∀ n : Byte, StoreFrameOf (.ldh_atA8_a n) (fun _ => 0xFF#8 ++ n) (·.cpu.a) (·.cpu)) ∧
  StoreFrameOf .ld_atC_a (fun s => 0xFF#8 ++ s.cpu.c) (·.cpu.a) (·.cpu) ∧
  StoreFrameOf .ld_atHLI_a getHL (·.cpu.a) (fun s => (setRr .hl (getHL s + 1) s).cpu) ∧
  StoreFrameOf .ld_atHLD_a getHL (·.cpu.a) (fun s => (setRr .hl (getHL s - 1) s).cpu) ∧
  ModifyFrameOf .inc_atHL (fun v _ => v + 1)
    (fun v f => { f with z := decide (v + 1 = 0), n := false, h := decide (v &&& 0x0F = 0x0F) }) ∧
  ModifyFrameOf .dec_atHL (fun v _ => v - 1)
    (fun v f => { f with z := decide (v - 1 = 0), n := true, h := decide (v &&& 0x0F = 0x00) }) ∧
  (∀ op : RotOp, ModifyFrameOf (rotInstr op .atHL) (fun v f => (rotSpec op v f.c).1)
    (fun v f => { z := decide ((rotSpec op v f.c).1 = 0), n := false, h := false, c := (rotSpec op v f.c).2 })) ∧
  (∀ b : BitVec 3, ModifyFrameOf (resInstr b .atHL) (fun v _ => v &&& ~~~((1 : Byte) <<< b.toNat)) (fun _ f => f) ∧
    ModifyFrameOf (setInstr b .atHL) (fun v _ => v ||| ((1 : Byte) <<< b.toNat)) (fun _ f => f)) ∧
  (∀ a : Word, WordFrameOf (.ld_atA16_sp a) (fun _ => a) (·.cpu.sp) (·.cpu)) ∧
  (∀ p : Qq, WordFrameOf (pushInstr p) (·.cpu.sp - 2) (getQq p) (fun s => { s.cpu with sp := s.cpu.sp - 2 })) ∧
  (∀ a : Word,
    WordFrameOf (.call_a16 a) (·.cpu.sp - 2) (·.cpu.pc) (fun s => { s.cpu with sp := s.cpu.sp - 2, pc := a })) ∧
  (∀ y : BitVec 3, WordFrameOf (rstInstr y) (·.cpu.sp - 2) (·.cpu.pc)
    (fun s => { s.cpu with sp := s.cpu.sp - 2, pc := BitVec.ofNat 16 (y.toNat * 8) })) ∧
  (∀ (cc : Cond) (a : Word) (s : State), taken cc s → exec (callCcInstr cc a) s = exec (.call_a16 a) s)

/-- 40 R220, R223, R225, 20 R102: LD (a16),SP writes the low byte first, PUSH the high byte first; SP moves by 2 and no
other register changes. -/
def Obligations.PushAndStoreSp : Prop :=
  (∀ p : Qq, Encodes [0b11#2 ++ qqBits p ++ 0b0101#4] (pushInstr p)) ∧
  (∀ lo hi : Byte, Encodes [0x08, lo, hi] (.ld_atA16_sp (hi ++ lo))) ∧
  (∀ (p : Qq) (s t : State) (e : Fault), PushStops (getQq p s) s e t →
    exec (pushInstr p) s = .next { t with fault := some e }) ∧
  (∀ (a : Word) (s t : State) (e : Fault), busWrite a (loByte s.cpu.sp) s = .stop e t →
    exec (.ld_atA16_sp a) s = .next { t with fault := some e }) ∧
  (∀ (a : Word) (s u t : State) (e : Fault), busWrite a (loByte s.cpu.sp) s = .ok () u →
    busWrite (a + 1) (hiByte s.cpu.sp) u = .stop e t → exec (.ld_atA16_sp a) s = .next { t with fault := some e }) ∧
  (∀ (p : Qq) (s : State), PushOk (getQq p s) s →
    ∃ t, Pushes (getQq p s) s t ∧ t.cpu = { s.cpu with sp := s.cpu.sp - 2 } ∧
      exec (pushInstr p) s = .next { t with cost := 16 }) ∧
  (∀ (a : Word) (s : State), writable a (loByte s.cpu.sp) s = true →
    (∀ u, busWrite a (loByte s.cpu.sp) s = .ok () u → writable (a + 1) (hiByte s.cpu.sp) u = true) →
    ∃ u t, busWrite a (loByte s.cpu.sp) s = .ok () u ∧ busWrite (a + 1) (hiByte s.cpu.sp) u = .ok () t ∧
      t.cpu = s.cpu ∧ exec (.ld_atA16_sp a) s = .next { t with cost := 20 }) ∧
  (∀ s : State, getQq .af s = s.cpu.a ++ (BitVec.ofBool s.cpu.f.z ++ BitVec.ofBool s.cpu.f.n ++
    BitVec.ofBool s.cpu.f.h ++ BitVec.ofBool s.cpu.f.c ++ 0#4)) ∧
  (∀ s : State, getQq .bc s = s.cpu.b ++ s.cpu.c ∧ getQq .de s = s.cpu.d ++ s.cpu.e ∧
    getQq .hl s = s.cpu.h ++ s.cpu.l)

/-- 40 R224, R225, 10 R22: POP: the low byte first; POP AF writes all four flags and F[3:0] stays 0. What is pushed is
popped: with two different plain bytes at SP - 1 and SP - 2, PUSH and then POP of any pairs moves the value, restores SP,
and changes no storage but those two bytes. -/
def Obligations.PopAndWhatWasPushed : Prop :=
  (∀ p : Qq, Encodes [0b11#2 ++ qqBits p ++ 0b0001#4] (popInstr p)) ∧
  (∀ (p : Qq) (s t : State) (e : Fault), PopStops s e t → exec (popInstr p) s = .next { t with fault := some e }) ∧
  (∀ (p : Qq) (s : State), PopOk s →
    ∃ v t, Pops s v t ∧ exec (popInstr p) s = .next { setQq p v t with cost := 12 }) ∧
  (∀ (p : Qq) (v : Word) (s : State), p ≠ .af → getQq p (setQq p v s) = v) ∧
  (∀ (v : Word) (s : State), getQq .af (setQq .af v s) = v &&& 0xFFF0) ∧
  (∀ (p q : Qq) (v : Word) (s : State), p ≠ q → getQq q (setQq p v s) = getQq q s) ∧
  (∀ (p q : Qq) (s : State) (c d : Cell), ArraysInv s →
      cellOf (s.cpu.sp - 1) s = some c → cellOf (s.cpu.sp - 2) s = some d → c ≠ d →
      byteCell c = true → byteCell d = true →
      ∃ t u, exec (pushInstr p) s = .next t ∧ exec (popInstr q) t = .next u ∧ u.cpu.sp = s.cpu.sp ∧
        u.cpu = { (setQq q (getQq p s) s).cpu with sp := s.cpu.sp } ∧
        peek (s.cpu.sp - 1) u = .ok ⟨hiByte (getQq p s), 0x00⟩ ∧ peek (s.cpu.sp - 2) u = .ok ⟨loByte (getQq p s), 0x00⟩ ∧
        (∀ x : Word, cellOf x s ≠ some c → cellOf x s ≠ some d → peek x u = peek x s))

/-! ## Control transfer -/

/-- 44 R370 to R375: the jumps, taken and not taken, with their costs. -/
def Obligations.Jumps : Prop :=
  (∀ (lo hi e : Byte) (cc : Cond),
    Encodes [0xC3, lo, hi] (.jp_a16 (hi ++ lo)) ∧ Encodes [0b110#3 ++ ccBits cc ++ 0b010#3, lo, hi] (jpCcInstr cc (hi ++ lo)) ∧
    Encodes [0xE9] .jp_hl ∧ Encodes [0x18, e] (.jr_e8 e) ∧ Encodes [0b001#3 ++ ccBits cc ++ 0b000#3, e] (jrCcInstr cc e)) ∧
  ∀ (s : State) (a : Word) (e : Byte) (cc : Cond),
    exec (.jp_a16 a) s = .next { s with cpu.pc := a, cost := 16 } ∧
    (taken cc s → exec (jpCcInstr cc a) s = .next { s with cpu.pc := a, cost := 16 }) ∧
    (¬taken cc s → exec (jpCcInstr cc a) s = .next { s with cost := 12 }) ∧
    exec .jp_hl s = .next { s with cpu.pc := s.cpu.h ++ s.cpu.l, cost := 4 } ∧
    exec (.jr_e8 e) s = .next { s with cpu.pc := BitVec.ofInt 16 (s.cpu.pc.toNat + e.toInt), cost := 12 } ∧
    (taken cc s → exec (jrCcInstr cc e) s =
      .next { s with cpu.pc := BitVec.ofInt 16 (s.cpu.pc.toNat + e.toInt), cost := 12 }) ∧
    (¬taken cc s → exec (jrCcInstr cc e) s = .next { s with cost := 8 })

/-- 44 R376, R377, R380: the calls and restarts push the address after the instruction; nothing is pushed when a
condition does not hold. -/
def Obligations.CallsAndRestarts : Prop :=
  (∀ (lo hi : Byte) (cc : Cond) (y : BitVec 3),
    Encodes [0xCD, lo, hi] (.call_a16 (hi ++ lo)) ∧
    Encodes [0b110#3 ++ ccBits cc ++ 0b100#3, lo, hi] (callCcInstr cc (hi ++ lo)) ∧
    Encodes [0b11#2 ++ y ++ 0b111#3] (rstInstr y)) ∧
  (∀ (s t : State) (e : Fault), PushStops s.cpu.pc s e t →
    (∀ a : Word, exec (.call_a16 a) s = .next { t with fault := some e }) ∧
    (∀ (cc : Cond) (a : Word), taken cc s → exec (callCcInstr cc a) s = .next { t with fault := some e }) ∧
    (∀ y : BitVec 3, exec (rstInstr y) s = .next { t with fault := some e })) ∧
  (∀ s : State, PushOk s.cpu.pc s →
    ∃ t, Pushes s.cpu.pc s t ∧ t.cpu = { s.cpu with sp := s.cpu.sp - 2 } ∧
      (∀ a : Word, exec (.call_a16 a) s = .next { t with cpu.pc := a, cost := 24 }) ∧
      (∀ (cc : Cond) (a : Word), taken cc s → exec (callCcInstr cc a) s = .next { t with cpu.pc := a, cost := 24 }) ∧
      (∀ y : BitVec 3, exec (rstInstr y) s = .next { t with cpu.pc := BitVec.ofNat 16 (y.toNat * 8), cost := 16 })) ∧
  (∀ (cc : Cond) (a : Word) (s : State), ¬taken cc s → exec (callCcInstr cc a) s = .next { s with cost := 12 })

/-- 44 R378, R379, R381: the returns pop PC; RETI sets IME at once; nothing is read when a condition does not hold. -/
def Obligations.Returns : Prop :=
  Encodes [0xC9] .ret ∧ Encodes [0xD9] .reti ∧
  (∀ cc : Cond, Encodes [0b110#3 ++ ccBits cc ++ 0b000#3] (retCcInstr cc)) ∧
  (∀ (s t : State) (e : Fault), PopStops s e t →
    exec .ret s = .next { t with fault := some e } ∧ exec .reti s = .next { t with fault := some e } ∧
    (∀ cc : Cond, taken cc s → exec (retCcInstr cc) s = .next { t with fault := some e })) ∧
  (∀ s : State, PopOk s →
    ∃ v t, Pops s v t ∧
      exec .ret s = .next { t with cpu.pc := v, cost := 16 } ∧
      exec .reti s = .next { t with cpu.pc := v, cpu.ime := true, cost := 16 } ∧
      (∀ cc : Cond, taken cc s → exec (retCcInstr cc) s = .next { t with cpu.pc := v, cost := 20 })) ∧
  (∀ (cc : Cond) (s : State), ¬taken cc s → exec (retCcInstr cc) s = .next { s with cost := 8 })

/-! ## System instructions, interrupts and timers -/

/-- 45 R400 to R404: NOP, HALT, STOP, DI and EI. -/
def Obligations.SystemInstructions : Prop :=
  ∀ (s : State) (x : Byte),
    (Encodes [0x00] .nop ∧ Encodes [0x76] .halt ∧ Encodes [0x10, x] (.stop x) ∧ Encodes [0xF3] .di ∧
      Encodes [0xFB] .ei) ∧
    exec .nop s = .next { s with cost := 4 } ∧
    exec .halt s = .next { s with cpu.halted := true, cost := 4 } ∧
    (s.cgbMode = true ∧ s.speedArmed = true →
      exec (.stop x) s = .next { s with doubleSpeed := !s.doubleSpeed, speedArmed := false, cost := 4 }) ∧
    (¬(s.cgbMode = true ∧ s.speedArmed = true) →
      exec (.stop x) s = .next { s with fault := some .stopUnmodelled }) ∧
    exec .di s = .next { s with cpu.ime := false, cpu.enabling := false, cost := 4 } ∧
    exec .ei s = .next { s with cpu.enabling := true, cost := 4 }

/-- 45 R405, 30 R177: each of the eleven illegal opcodes raises its fault, and the step that fetches one ends there:
PC past the opcode byte and every other register as it was. -/
def Obligations.IllegalOpcodesFault : Prop :=
  illegalRows.length = 11 ∧
  ∀ (o : Byte) (i : Instr), (o, i) ∈ illegalRows →
    decode [o] = .ok (i, []) ∧
    (∀ s : State, exec i s = .next { s with fault := some (.illegalOpcode o) }) ∧
    (∀ s : State, s.fault = none → s.cpu.halted = false → peek s.cpu.pc s = .ok ⟨o, 0x00⟩ →
      step s = .next { s with cpu.pc := s.cpu.pc + 1, fault := some (.illegalOpcode o), cost := 0, charge := 0 })

/-- 60 R513, R514, R516: the interrupt service: the EI flag first, then the dispatch of the lowest pending enabled
source, then the wake without dispatch. -/
def Obligations.InterruptService : Prop :=
  (∀ s : State, s.cpu.enabling = true →
    interruptService s = .ok 0 { s with cpu.ime := true, cpu.enabling := false }) ∧
  (∀ s : State, s.cpu.enabling = false → s.ifr &&& s.ie.extractLsb' 0 5 = 0 → interruptService s = .ok 0 s) ∧
  (∀ (s t : State) (i : Nat), s.cpu.enabling = false → s.cpu.ime = true → i < 5 →
    (s.ifr &&& s.ie.extractLsb' 0 5).getLsbD i = true →
    (∀ j < i, (s.ifr &&& s.ie.extractLsb' 0 5).getLsbD j = false) →
    t = { s with cpu.ime := false, cpu.halted := false, ifr := s.ifr &&& ~~~((1 : BitVec 5) <<< i) } →
    PushOk s.cpu.pc t →
    ∃ u, Pushes s.cpu.pc t u ∧
      interruptService s = .ok 20 { u with cpu.pc := BitVec.ofNat 16 (0x40 + 8 * i) } ∧
      u.cpu = { s.cpu with ime := false, halted := false, sp := s.cpu.sp - 2 }) ∧
  (∀ (s t u : State) (i : Nat) (e : Fault), s.cpu.enabling = false → s.cpu.ime = true → i < 5 →
    (s.ifr &&& s.ie.extractLsb' 0 5).getLsbD i = true →
    (∀ j < i, (s.ifr &&& s.ie.extractLsb' 0 5).getLsbD j = false) →
    t = { s with cpu.ime := false, cpu.halted := false, ifr := s.ifr &&& ~~~((1 : BitVec 5) <<< i) } →
    PushStops s.cpu.pc t e u → interruptService s = .stop e u) ∧
  (∀ s : State, s.cpu.enabling = false → s.ifr &&& s.ie.extractLsb' 0 5 ≠ 0 → s.cpu.ime = false →
    (s.cpu.halted = true → interruptService s = .ok Config.unhaltCost { s with cpu.halted := false }) ∧
    (s.cpu.halted = false → interruptService s = .ok 0 s))

/-- 60 R520, R522: the divider counts every 255 cycles, and the timer every period of TAC while TAC[2] = 1, each
increment from 0xFF reloading TMA and requesting the timer interrupt. -/
def Obligations.DividerAndTimer : Prop :=
  ∀ (c : Nat) (s : State) (d : Timer),
    d = { s.timer with div := BitVec.ofNat 8 (s.timer.div.toNat + (s.timer.divAcc + c) / 255),
                       divAcc := (s.timer.divAcc + c) % 255 } →
    (s.timer.tac.getLsbD 2 = false → timerStep c s = { s with timer := d }) ∧
    (s.timer.tac.getLsbD 2 = true →
      timerStep c s = { s with
        timer := { d with
          timerCounter := (s.timer.timerCounter + c) % periodOf s.timer.tac
          tima := (timaAfter s.timer.tma ((s.timer.timerCounter + c) / periodOf s.timer.tac) s.timer.tima).1 }
        ifr := if (timaAfter s.timer.tma ((s.timer.timerCounter + c) / periodOf s.timer.tac) s.timer.tima).2
               then s.ifr ||| 0b00100#5 else s.ifr })

/-! ## The PPU -/

/-- 61 R601, R602, R603: a PPU step: off; and on, over at most 24 cycles: the line and dot counters, the mode, the
requests of V-blank and STAT on their edges, the line drawn at mode 3 entry, the frame published at line 144. -/
def Obligations.PpuStep : Prop :=
  (∀ (spd c : Nat) (s : State), s.ppu.lcdc.getLsbD 7 = false →
    ppuStep spd c s = .ok () { s with ppu.ly := 0, ppu.dot := 0, ppu.mode := 0 }) ∧
  (∀ (spd c ly dot : Nat) (m : BitVec 2) (wraps : Bool) (s : State), s.ppu.lcdc.getLsbD 7 = true →
    (spd = 1 ∨ spd = 2) → c ≤ 24 → s.ppu.dot < 456 * spd → s.ppu.ly.toNat ≤ 153 →
    wraps = decide (456 * spd ≤ s.ppu.dot + c) →
    ly = (if wraps then (if s.ppu.ly.toNat = 153 then 0 else s.ppu.ly.toNat + 1) else s.ppu.ly.toNat) →
    dot = (if wraps then s.ppu.dot + c - 456 * spd else s.ppu.dot + c) →
    m = modeOf spd ly dot →
    (s.hdma.active = true → blockReadable s.hdma.src 16 s = true) →
    ∃ t, ppuStep spd c s = .ok () t ∧
      t.ppu.ly.toNat = ly ∧ t.ppu.dot = dot ∧ t.ppu.mode = m ∧ t.ppu.prevCoin = decide (ly = s.ppu.lyc.toNat) ∧
      t.ifr = s.ifr ||| (if wraps = true ∧ ly = 144 then 0b00001#5 else 0) |||
        (if (m ≠ s.ppu.mode ∧ (m = 0 ∧ s.ppu.statSel.getLsbD 0 = true ∨ m = 1 ∧ s.ppu.statSel.getLsbD 1 = true ∨
              m = 2 ∧ s.ppu.statSel.getLsbD 2 = true)) ∨
            (ly = s.ppu.lyc.toNat ∧ s.ppu.prevCoin = false ∧ s.ppu.statSel.getLsbD 3 = true)
         then 0b00010#5 else 0) ∧
      t.ppu.prepared = (if wraps = true ∧ ly = 144 then s.ppu.screen else s.ppu.prepared) ∧
      t.ppu.screen = (if m = 3 ∧ m ≠ s.ppu.mode
        then s.ppu.screen.setRow ly ((List.range 160).map (pixelSpec s.cgbMode s.ppu ly))
        else s.ppu.screen) ∧
      t.hdma.remaining = (if m = 0 ∧ m ≠ s.ppu.mode ∧ s.hdma.active = true then s.hdma.remaining - 1
        else s.hdma.remaining) ∧
      t.cpu = s.cpu ∧ t.timer = s.timer ∧ t.ie = s.ie ∧ t.cart = s.cart ∧ t.wram = s.wram ∧ t.hram = s.hram ∧
      t.ppu.oam = s.ppu.oam ∧ t.fault = s.fault ∧
      (s.hdma.active = false ∨ m ≠ 0 ∨ m = s.ppu.mode →
        t.hdma = s.hdma ∧ t.ppu.vram = s.ppu.vram ∧ t.draws = s.draws))

/-- 61 R610 to R622: a line as a whole. The background and window pixel in both modes, with the CGB attributes; the
sprites of a line (the first 10 entries covering it, X playing no part), their order (by X in DMG mode, by OAM index among
equals and in CGB mode), the pixel of a sprite; when the background shows instead; the colours; their composition, and what
drawing a line changes. That a blank DMG background is shade 0 whatever BGP is log 17's reading of R612; colours as codes
are log 10's. -/
def Obligations.LinePixels : Prop :=
  (∀ (p : Ppu) (ly : Nat),
    selectSprites true p ly = (((List.range 40).map (spriteAt p)).filter fun s =>
      decide ((s.y.toNat : Int) - 16 ≤ ly ∧
        (ly : Int) < (s.y.toNat : Int) - 16 + (if p.lcdc.getLsbD 2 then 16 else 8))).take 10 ∧
    (selectSprites false p ly).Perm (selectSprites true p ly) ∧
    (selectSprites false p ly).Pairwise (fun s t => s.x.toNat ≤ t.x.toNat) ∧
    (∀ x : Byte, (selectSprites false p ly).filter (fun s => decide (s.x = x)) =
      (selectSprites true p ly).filter (fun s => decide (s.x = x)))) ∧
  (∀ (cgb : Bool) (p : Ppu) (x ly : Nat) (pre post : List Sprite) (s : Sprite),
    (∀ q ∈ pre, spritePixel cgb p q x ly = 0) → spritePixel cgb p s x ly ≠ 0 →
    firstOpaque cgb p x ly (pre ++ s :: post) = some (s, spritePixel cgb p s x ly)) ∧
  (∀ (p : Ppu) (i : Nat),
    spriteAt p i = ⟨p.oam.get (4 * i), p.oam.get (4 * i + 1), p.oam.get (4 * i + 2), p.oam.get (4 * i + 3)⟩) ∧
  (∀ (cgb : Bool) (p : Ppu) (s : Sprite) (x ly : Nat),
    ((x : Int) < (s.x.toNat : Int) - 8 ∨ (s.x.toNat : Int) - 8 + 7 < x → spritePixel cgb p s x ly = 0) ∧
    (∀ col row : Nat, (col : Int) = x - ((s.x.toNat : Int) - 8) → col ≤ 7 →
      (row : Int) = ly - ((s.y.toNat : Int) - 16) → row < spriteRows p →
      spritePixel cgb p s x ly = tileBits p (if cgb then (s.flags.getLsbD 3).toNat else 0)
        ((if p.lcdc.getLsbD 2 then s.tile.toNat / 2 * 2 else s.tile.toNat) * 16 +
          2 * (if s.flags.getLsbD 6 then spriteRows p - 1 - row else row))
        (if s.flags.getLsbD 5 then 7 - col else col))) ∧
  (∀ (p : Ppu) (s : Sprite) (idx : BitVec 2) (prio : Bool),
    (bgWins false p s idx prio = true ↔ s.flags.getLsbD 7 = true ∧ idx ≠ 0) ∧
    (p.lcdc.getLsbD 0 = false → bgWins true p s idx prio = false) ∧
    (p.lcdc.getLsbD 0 = true →
      (bgWins true p s idx prio = true ↔ (prio = true ∨ s.flags.getLsbD 7 = true) ∧ idx ≠ 0))) ∧
  (∀ (cgb : Bool) (p : Ppu) (x ly : Nat),
    (cgb = false → p.lcdc.getLsbD 0 = false → bgWindowPixel cgb p x ly = (0, 0, false)) ∧
    (windowSpec cgb p x ly → bgWindowPixel cgb p x ly = windowPixelSpec cgb p x ly) ∧
    (¬windowSpec cgb p x ly → (cgb = true ∨ p.lcdc.getLsbD 0 = true) →
      bgWindowPixel cgb p x ly = backgroundSpec cgb p x ly)) ∧
  (∀ (p : Ppu) (s : Sprite) (idx : BitVec 2) (pal : BitVec 3),
    bgColour true p idx pal = cgbColourSpec p.bgPal pal.toNat idx.toNat ∧
    objColour true p s idx = cgbColourSpec p.objPal (s.flags.toNat % 8) idx.toNat ∧
    (p.lcdc.getLsbD 0 = true → bgColour false p idx pal = shadeSpec p.bgp idx) ∧
    (p.lcdc.getLsbD 0 = false → bgColour false p idx pal = .shade 0) ∧
    objColour false p s idx = shadeSpec (if s.flags.getLsbD 4 then p.obp1 else p.obp0) idx) ∧
  (∀ (k : BitVec 2) (v : BitVec 15), (Pixel.shade k).rgb = Config.dmgShades k ∧
    (Pixel.colour v).rgb = (Config.colorLUT (BitVec.ofNat 5 v.toNat), Config.colorLUT (BitVec.ofNat 5 (v.toNat / 32)),
      Config.colorLUT (BitVec.ofNat 5 (v.toNat / 1024)))) ∧
  (∀ (cgb : Bool) (p : Ppu) (ly : Nat),
    Frame.row (renderLine cgb ly p).screen ly = (List.range 160).map (pixelSpec cgb p ly) ∧
    (∀ y, y ≠ ly → Frame.row (renderLine cgb ly p).screen y = Frame.row p.screen y) ∧
    renderLine cgb ly p = { p with
      screen := (renderLine cgb ly p).screen
      bgIndex := (List.range 160).map fun x => (bgWindowPixel cgb p x ly).1
      bgAttrPrio := (List.range 160).map fun x => (bgWindowPixel cgb p x ly).2.2 })

/-! ## The APU -/

/-- 62 R702, R703, R704, R711: a write to an APU register stores the byte; with the trigger bit of an NRn4 it restarts
channel n alone, with the frequency of its register pair; and one clock of the noise LFSR. A write without a
trigger, but to what the sampler reads at every sample (NR30, NR32, NR50 to NR52), changes no sample of any later pull
(R702, R705). That a trigger takes the duty and the LFSR's width with it is the model's reading of R702 (log 20). -/
def Obligations.ApuWritesAndNoise : Prop :=
  (∀ (p : Nat) (v : Byte) (s : State), 0x10 ≤ p ∧ p ≤ 0x26 →
    ((p ≠ 0x14 ∧ p ≠ 0x19 ∧ p ≠ 0x1E ∧ p ≠ 0x23) ∨ v.getLsbD 7 = false) →
    busWrite (BitVec.ofNat 16 (0xFF00 + p)) v s = .ok () { s with apu.regs := s.apu.regs.set p v } ∧
    (s.apu.regs.wf = true → p ≠ 0x1A → p ≠ 0x1C → p < 0x24 →
      ∀ k : Nat, (pull k { s with apu.regs := s.apu.regs.set p v }).1 = (pull k s).1)) ∧
  (∀ (n : Chan) (v lo r0 r1 r2 : Byte) (s : State) (reg : Nat), s.apu.regs.wf = true → v.getLsbD 7 = true →
    r0 = s.apu.regs.get (0x10 + 5 * (n.num - 1)) → r1 = s.apu.regs.get (0x10 + 5 * (n.num - 1) + 1) →
    lo = s.apu.regs.get (0x10 + 5 * (n.num - 1) + 3) → r2 = s.apu.regs.get (0x10 + 5 * (n.num - 1) + 2) →
    reg = v.toNat % 8 * 256 + lo.toNat →
    ∃ t, busWrite (nrAddress n 4) v s = .ok () t ∧ t = { s with apu := t.apu } ∧
      t.apu.regs = s.apu.regs.set (0x10 + 5 * (n.num - 1) + 4) v ∧ t.apu.wave = s.apu.wave ∧
      t.apu.soundEnabled = s.apu.soundEnabled ∧
      (∀ m : Chan, m ≠ n → t.apu.chan m = s.apu.chan m) ∧
      t.apu.lfsr = (if n = .four then 0x7FFF else s.apu.lfsr) ∧
      t.apu.narrow = (if n = .four then lo.getLsbD 3 else s.apu.narrow) ∧
      (t.apu.chan n).on = true ∧ (t.apu.chan n).phase = 0 ∧ (t.apu.chan n).kind = (s.apu.chan n).kind ∧
      (t.apu.chan n).duration = (if v.getLsbD 6 then
        some ((if n = .three then 256 - r1.toNat else 64 - r1.toNat % 64) * (Config.sampleRate : Nat) / 256) else none) ∧
      (n = .one ∨ n = .two → (t.apu.chan n).sweepLen = r0.toNat / 16 % 8 * (Config.sampleRate : Nat) / 128 ∧
        (t.apu.chan n).sweepDir = r0.getLsbD 3 ∧ (t.apu.chan n).sweepSteps = r0.toNat % 8 ∧
        (t.apu.chan n).sweepCount = 0) ∧
      (n = .three → (t.apu.chan n).envSamplesPerStep = 0 ∧ (t.apu.chan n).envTarget = 0) ∧
      (n ≠ .three → (t.apu.chan n).envSamplesPerStep = r2.toNat % 8 * (Config.sampleRate : Nat) / 64 ∧
        (t.apu.chan n).envStep = 0) ∧
      (n = .one ∨ n = .two → (t.apu.chan n).freqHz = 131072 / (2048 - (reg : Rat)) ∧
        (t.apu.chan n).shadow.toNat = reg ∧
        (t.apu.chan n).duty = r1.extractLsb' 6 2) ∧
      (n = .three → (t.apu.chan n).freqHz = 65536 / (2048 - (reg : Rat)) ∧ (t.apu.chan n).amplitude = 15) ∧
      (n = .four → (t.apu.chan n).freqHz =
        524288 / (if lo.toNat % 8 = 0 then (1 / 2 : Rat) else ((lo.toNat % 8 : Nat) : Rat)) / (2 : Rat) ^ (lo.toNat / 16 + 1)) ∧
      (n ≠ .three → (t.apu.chan n).amplitude.toNat = r2.toNat / 16 ∧
        (t.apu.chan n).envDir = r2.getLsbD 3 ∧
        (t.apu.chan n).envTarget = if r2.getLsbD 3 then 15 - r2.toNat / 16 else r2.toNat / 16)) ∧
  (∀ (narrow : Bool) (x : BitVec 15) (i : Nat), i < 15 →
    (lfsrClock narrow x).getLsbD i =
      if i = 14 ∨ (narrow = true ∧ i = 6) then xor (x.getLsbD 0) (x.getLsbD 1) else x.getLsbD (i + 1))

/-- 62 R703, R706 to R708, R710, R720: sampling: the value of each kind of channel, what a sample does to a channel (its
phase, LFSR, length, envelope and sweep) and to nothing else, the samples, and a pull of k of them in order, which the
LFSR does not change while channel 4 is off. An envelope step never takes the amplitude out of 0 to 15 (what is left to go
and the amplitude stay in step), a finite duration runs out into silence, an off channel gives 0 and does not move, and
samples are 0 while NR52[7] = 0. -/
def Obligations.ApuSampling : Prop :=
  (∀ c : Channel, (c.envDir = true → c.amplitude.toNat + c.envTarget = 15) →
    (c.envDir = false → c.amplitude.toNat = c.envTarget) →
    (c.advanceEnvelope.envDir = c.envDir) ∧
    (c.envDir = true → c.advanceEnvelope.amplitude.toNat + c.advanceEnvelope.envTarget = 15 ∧
      c.amplitude.toNat ≤ c.advanceEnvelope.amplitude.toNat) ∧
    (c.envDir = false → c.advanceEnvelope.amplitude.toNat = c.advanceEnvelope.envTarget ∧
      c.advanceEnvelope.amplitude.toNat ≤ c.amplitude.toNat)) ∧
  (∀ (s : Apu) (n : Chan) (c : Channel), c = s.chan n → c.on = true →
    (c.kind = .square → s.waveform n =
      if c.phase < [(1 / 8 : Rat), 1 / 4, 1 / 2, 3 / 4].getD c.duty.toNat 0 then c.amplitude.toNat else 0) ∧
    (c.kind = .noise → s.waveform n = if s.lfsr.getLsbD 0 then 0 else c.amplitude.toNat) ∧
    (c.kind = .wave → (s.regs.get 0x1A).getLsbD 7 = false → s.waveform n = 0) ∧
    (c.kind = .wave → (s.regs.get 0x1A).getLsbD 7 = true → ∀ i : Nat, ⌊c.phase * 32⌋ = (i : Int) →
      s.waveform n =
        (if i % 2 = 0 then (s.wave.get (i / 2)).toNat / 16 else (s.wave.get (i / 2)).toNat % 16) /
          2 ^ [4, 0, 1, 2].getD ((s.regs.get 0x1C).toNat / 32 % 4) 0)) ∧
  (∀ (s : Apu) (rate : Nat) (n : Chan), (s.chan n).on = true →
    s.advance rate n = { s.setChan n (sampledSpec rate (decide (n = .one ∨ n = .two)) (s.chan n)) with
      lfsr := if n = .four then
          (lfsrClock s.narrow)^[⌊(s.chan n).phase + (s.chan n).freqHz / (rate : Rat)⌋.toNat] s.lfsr
        else s.lfsr } ∧
    0 ≤ ((s.advance rate n).chan n).phase ∧ ((s.advance rate n).chan n).phase < 1) ∧
  (∀ (s : Apu) (n m : Chan) (c : Channel), (s.setChan n c).chan n = c ∧ (m ≠ n → (s.setChan n c).chan m = s.chan m)) ∧
  (∀ s : Apu, (s.regs.get 0x26).getLsbD 7 = true → s.output =
    (Config.mix (routedSpec s 4) ((s.regs.get 0x24).extractLsb' 4 3),
      Config.mix (routedSpec s 0) ((s.regs.get 0x24).extractLsb' 0 3))) ∧
  (∀ (s : State) (r : Nat), r = (Config.sampleRate : Nat) → s.apu.soundEnabled = true →
    sample s = some (s.apu.output, { s with apu := sampledApu r s.apu }) ∧
    ∀ k : Nat, pull k s = ((List.range k).map fun i => ((sampledApu r)^[i] s.apu).output,
      { s with apu := (sampledApu r)^[k] s.apu })) ∧
  (∀ (s : State) (k : Nat), s.apu.soundEnabled = false → pull k s = ([], s)) ∧
  (∀ (s : State) (k : Nat) (x : BitVec 15), s.apu.ch1.kind = .square → s.apu.ch2.kind = .square →
    s.apu.ch3.kind = .wave → s.apu.ch4.on = false →
    (pull k { s with apu.lfsr := x }).1 = (pull k s).1 ∧
      (pull k { s with apu.lfsr := x }).2 = { (pull k s).2 with apu.lfsr := x }) ∧
  (∀ (s : Apu) (rate : Nat) (n : Chan), (s.chan n).on = true → (s.chan n).duration = some 1 →
    ((s.advance rate n).chan n).on = false) ∧
  (∀ (s : Apu) (rate : Nat) (n : Chan), (s.chan n).on = false → s.waveform n = 0 ∧ s.advance rate n = s) ∧
  (∀ (s : Apu) (n : Chan), (s.chan n).on = true → s.waveform n ≤ 15) ∧
  (∀ s : Apu, (s.regs.get 0x26).getLsbD 7 = false → s.output = (0, 0)) ∧
  (∀ s : State, s.apu.soundEnabled = false → sample s = none)

/-! ## The host -/

/-- 60 R540: `update()` runs steps, one after the other, as long as no fault is recorded and the charges so far, with the
carry, stay below the budget at the current speed; it ends at the first state where either fails, returns the sum of the
charges, and carries what was spent beyond the budget; a fault leaves the carry. A faulting step's charge is log 8's. -/
def Obligations.UpdateSpendsTheBudget : Prop :=
  (∀ s : State, s.fault = none → ∃ (k : Nat) (run : Nat → State), run 0 = s ∧
    (∀ i < k, (run i).fault = none ∧ spentIn run i + s.frameCarry < budgetOf (run i) ∧
      step (run i) = .next (run (i + 1)) ∧ (run (i + 1)).frameCarry = s.frameCarry) ∧
    ((run k).fault ≠ none ∨ budgetOf (run k) ≤ spentIn run k + s.frameCarry) ∧
    update s = (spentIn run k, if (run k).fault = none
      then { run k with frameCarry := spentIn run k + s.frameCarry - budgetOf (run k) } else run k)) ∧
  ∀ (s t : State) (spent : Nat), update s = (spent, t) → s.fault = none →
    (t.fault = none →
      69905 * (if t.doubleSpeed then 2 else 1) ≤ spent + s.frameCarry ∧
      t.frameCarry + 69905 * (if t.doubleSpeed then 2 else 1) = spent + s.frameCarry) ∧
    (t.fault ≠ none → t.frameCarry = s.frameCarry) ∧
    (69905 * (if s.doubleSpeed then 2 else 1) ≤ s.frameCarry →
      spent = 0 ∧ t = { s with frameCarry := s.frameCarry - 69905 * (if s.doubleSpeed then 2 else 1) })

/-- 60 R541 to R544: the frame is `prepared`, 160 x 144 pixels, row by row from the top-left, and framebuffer() answers no
state; restoring a snapshot puts back every field but the count of draws,
which never goes back (log 2), or with recorded draws the whole state; save data has its layout and size, and loading into a cartridge
of the same type what another one saved restores its RAM byte for byte, changing nothing else. -/
def Obligations.FrameAndSaveData : Prop :=
  (∀ s : State, Inv s → (framebuffer s).length = 160 * 144 ∧
    ∀ x y : Nat, x < 160 → y < 144 →
      (framebuffer s)[160 * y + x]? = some ((Frame.row s.ppu.prepared y).getD x .black).rgb) ∧
  (∀ s t : State,
    restore (snapshot s) t = { s with draws := (restore (snapshot s) t).draws } ∧
    s.draws ≤ (restore (snapshot s) t).draws ∧ t.draws ≤ (restore (snapshot s) t).draws ∧
    restoreRecorded (snapshot s) t = s) ∧
  (∀ s : State, s.cart.mbc = .romOnly → getSaveData s = [] ∧ ∀ bs, loadSaveData bs s = s) ∧
  (∀ s : State, s.cart.mbc = .mbc2 → (getSaveData s).length = 512 ∧
    ∀ k < 512, (getSaveData s).getD k 0 = s.cart.mbc2Ram.get k &&& 0x0F) ∧
  (∀ s : State, s.cart.mbc = .mbc1 ∨ s.cart.mbc = .mbc3 ∨ s.cart.mbc = .mbc5 → (getSaveData s).length = 0x20000 ∧
    ∀ k < 0x20000, (getSaveData s).getD k 0 = s.cart.ram.get k) ∧
  (∀ s t : State, Inv s → Inv t → t.cart.mbc = s.cart.mbc →
    loadSaveData (getSaveData s) t = { t with cart.ram := (loadSaveData (getSaveData s) t).cart.ram,
                                              cart.mbc2Ram := (loadSaveData (getSaveData s) t).cart.mbc2Ram } ∧
    (s.cart.mbc = .mbc2 → (loadSaveData (getSaveData s) t).cart.mbc2Ram = s.cart.mbc2Ram) ∧
    (s.cart.mbc = .mbc1 ∨ s.cart.mbc = .mbc3 ∨ s.cart.mbc = .mbc5 →
      (loadSaveData (getSaveData s) t).cart.ram = s.cart.ram))
end

