-- ==== Sys2Proof/Laws/State.lean ====
section
/-! SUPPORT. What each named update of the state changes and keeps: one lemma per field per update. -/

namespace Sys2Proof.Machine

/-! `spend` -/

@[simp] theorem spend_cpu (k : Nat) (s : State) : (spend k s).cpu = s.cpu := rfl
@[simp] theorem spend_timer (k : Nat) (s : State) : (spend k s).timer = s.timer := rfl
@[simp] theorem spend_ppu (k : Nat) (s : State) : (spend k s).ppu = s.ppu := rfl
@[simp] theorem spend_hdma (k : Nat) (s : State) : (spend k s).hdma = s.hdma := rfl
@[simp] theorem spend_cart (k : Nat) (s : State) : (spend k s).cart = s.cart := rfl
@[simp] theorem spend_apu (k : Nat) (s : State) : (spend k s).apu = s.apu := rfl
@[simp] theorem spend_wram (k : Nat) (s : State) : (spend k s).wram = s.wram := rfl
@[simp] theorem spend_hram (k : Nat) (s : State) : (spend k s).hram = s.hram := rfl
@[simp] theorem spend_svbk (k : Nat) (s : State) : (spend k s).svbk = s.svbk := rfl
@[simp] theorem spend_ifr (k : Nat) (s : State) : (spend k s).ifr = s.ifr := rfl
@[simp] theorem spend_ie (k : Nat) (s : State) : (spend k s).ie = s.ie := rfl
@[simp] theorem spend_p1 (k : Nat) (s : State) : (spend k s).p1 = s.p1 := rfl
@[simp] theorem spend_inputMask (k : Nat) (s : State) : (spend k s).inputMask = s.inputMask := rfl
@[simp] theorem spend_doubleSpeed (k : Nat) (s : State) : (spend k s).doubleSpeed = s.doubleSpeed := rfl
@[simp] theorem spend_speedArmed (k : Nat) (s : State) : (spend k s).speedArmed = s.speedArmed := rfl
@[simp] theorem spend_cgbMode (k : Nat) (s : State) : (spend k s).cgbMode = s.cgbMode := rfl
@[simp] theorem spend_supportMode (k : Nat) (s : State) : (spend k s).supportMode = s.supportMode := rfl
@[simp] theorem spend_frameCarry (k : Nat) (s : State) : (spend k s).frameCarry = s.frameCarry := rfl
@[simp] theorem spend_fault (k : Nat) (s : State) : (spend k s).fault = s.fault := rfl
@[simp] theorem spend_draws (k : Nat) (s : State) : (spend k s).draws = s.draws := rfl
@[simp] theorem spend_charge (k : Nat) (s : State) : (spend k s).charge = s.charge := rfl
@[simp] theorem spend_cost (k : Nat) (s : State) : (spend k s).cost = k := rfl

/-! `setPc` -/

@[simp] theorem setPc_timer (v : Word) (s : State) : (setPc v s).timer = s.timer := rfl
@[simp] theorem setPc_ppu (v : Word) (s : State) : (setPc v s).ppu = s.ppu := rfl
@[simp] theorem setPc_hdma (v : Word) (s : State) : (setPc v s).hdma = s.hdma := rfl
@[simp] theorem setPc_cart (v : Word) (s : State) : (setPc v s).cart = s.cart := rfl
@[simp] theorem setPc_apu (v : Word) (s : State) : (setPc v s).apu = s.apu := rfl
@[simp] theorem setPc_wram (v : Word) (s : State) : (setPc v s).wram = s.wram := rfl
@[simp] theorem setPc_hram (v : Word) (s : State) : (setPc v s).hram = s.hram := rfl
@[simp] theorem setPc_svbk (v : Word) (s : State) : (setPc v s).svbk = s.svbk := rfl
@[simp] theorem setPc_ifr (v : Word) (s : State) : (setPc v s).ifr = s.ifr := rfl
@[simp] theorem setPc_ie (v : Word) (s : State) : (setPc v s).ie = s.ie := rfl
@[simp] theorem setPc_p1 (v : Word) (s : State) : (setPc v s).p1 = s.p1 := rfl
@[simp] theorem setPc_inputMask (v : Word) (s : State) : (setPc v s).inputMask = s.inputMask := rfl
@[simp] theorem setPc_doubleSpeed (v : Word) (s : State) : (setPc v s).doubleSpeed = s.doubleSpeed := rfl
@[simp] theorem setPc_speedArmed (v : Word) (s : State) : (setPc v s).speedArmed = s.speedArmed := rfl
@[simp] theorem setPc_cgbMode (v : Word) (s : State) : (setPc v s).cgbMode = s.cgbMode := rfl
@[simp] theorem setPc_supportMode (v : Word) (s : State) : (setPc v s).supportMode = s.supportMode := rfl
@[simp] theorem setPc_frameCarry (v : Word) (s : State) : (setPc v s).frameCarry = s.frameCarry := rfl
@[simp] theorem setPc_fault (v : Word) (s : State) : (setPc v s).fault = s.fault := rfl
@[simp] theorem setPc_draws (v : Word) (s : State) : (setPc v s).draws = s.draws := rfl
@[simp] theorem setPc_cost (v : Word) (s : State) : (setPc v s).cost = s.cost := rfl
@[simp] theorem setPc_charge (v : Word) (s : State) : (setPc v s).charge = s.charge := rfl
@[simp] theorem setPc_cpu_a (v : Word) (s : State) : (setPc v s).cpu.a = s.cpu.a := rfl
@[simp] theorem setPc_cpu_f (v : Word) (s : State) : (setPc v s).cpu.f = s.cpu.f := rfl
@[simp] theorem setPc_cpu_b (v : Word) (s : State) : (setPc v s).cpu.b = s.cpu.b := rfl
@[simp] theorem setPc_cpu_c (v : Word) (s : State) : (setPc v s).cpu.c = s.cpu.c := rfl
@[simp] theorem setPc_cpu_d (v : Word) (s : State) : (setPc v s).cpu.d = s.cpu.d := rfl
@[simp] theorem setPc_cpu_e (v : Word) (s : State) : (setPc v s).cpu.e = s.cpu.e := rfl
@[simp] theorem setPc_cpu_h (v : Word) (s : State) : (setPc v s).cpu.h = s.cpu.h := rfl
@[simp] theorem setPc_cpu_l (v : Word) (s : State) : (setPc v s).cpu.l = s.cpu.l := rfl
@[simp] theorem setPc_cpu_sp (v : Word) (s : State) : (setPc v s).cpu.sp = s.cpu.sp := rfl
@[simp] theorem setPc_cpu_ime (v : Word) (s : State) : (setPc v s).cpu.ime = s.cpu.ime := rfl
@[simp] theorem setPc_cpu_enabling (v : Word) (s : State) : (setPc v s).cpu.enabling = s.cpu.enabling := rfl
@[simp] theorem setPc_cpu_halted (v : Word) (s : State) : (setPc v s).cpu.halted = s.cpu.halted := rfl
@[simp] theorem setPc_cpu_pc (v : Word) (s : State) : (setPc v s).cpu.pc = v := rfl

/-! `setSp` -/

@[simp] theorem setSp_timer (v : Word) (s : State) : (setSp v s).timer = s.timer := rfl
@[simp] theorem setSp_ppu (v : Word) (s : State) : (setSp v s).ppu = s.ppu := rfl
@[simp] theorem setSp_hdma (v : Word) (s : State) : (setSp v s).hdma = s.hdma := rfl
@[simp] theorem setSp_cart (v : Word) (s : State) : (setSp v s).cart = s.cart := rfl
@[simp] theorem setSp_apu (v : Word) (s : State) : (setSp v s).apu = s.apu := rfl
@[simp] theorem setSp_wram (v : Word) (s : State) : (setSp v s).wram = s.wram := rfl
@[simp] theorem setSp_hram (v : Word) (s : State) : (setSp v s).hram = s.hram := rfl
@[simp] theorem setSp_svbk (v : Word) (s : State) : (setSp v s).svbk = s.svbk := rfl
@[simp] theorem setSp_ifr (v : Word) (s : State) : (setSp v s).ifr = s.ifr := rfl
@[simp] theorem setSp_ie (v : Word) (s : State) : (setSp v s).ie = s.ie := rfl
@[simp] theorem setSp_p1 (v : Word) (s : State) : (setSp v s).p1 = s.p1 := rfl
@[simp] theorem setSp_inputMask (v : Word) (s : State) : (setSp v s).inputMask = s.inputMask := rfl
@[simp] theorem setSp_doubleSpeed (v : Word) (s : State) : (setSp v s).doubleSpeed = s.doubleSpeed := rfl
@[simp] theorem setSp_speedArmed (v : Word) (s : State) : (setSp v s).speedArmed = s.speedArmed := rfl
@[simp] theorem setSp_cgbMode (v : Word) (s : State) : (setSp v s).cgbMode = s.cgbMode := rfl
@[simp] theorem setSp_supportMode (v : Word) (s : State) : (setSp v s).supportMode = s.supportMode := rfl
@[simp] theorem setSp_frameCarry (v : Word) (s : State) : (setSp v s).frameCarry = s.frameCarry := rfl
@[simp] theorem setSp_fault (v : Word) (s : State) : (setSp v s).fault = s.fault := rfl
@[simp] theorem setSp_draws (v : Word) (s : State) : (setSp v s).draws = s.draws := rfl
@[simp] theorem setSp_cost (v : Word) (s : State) : (setSp v s).cost = s.cost := rfl
@[simp] theorem setSp_charge (v : Word) (s : State) : (setSp v s).charge = s.charge := rfl
@[simp] theorem setSp_cpu_a (v : Word) (s : State) : (setSp v s).cpu.a = s.cpu.a := rfl
@[simp] theorem setSp_cpu_f (v : Word) (s : State) : (setSp v s).cpu.f = s.cpu.f := rfl
@[simp] theorem setSp_cpu_b (v : Word) (s : State) : (setSp v s).cpu.b = s.cpu.b := rfl
@[simp] theorem setSp_cpu_c (v : Word) (s : State) : (setSp v s).cpu.c = s.cpu.c := rfl
@[simp] theorem setSp_cpu_d (v : Word) (s : State) : (setSp v s).cpu.d = s.cpu.d := rfl
@[simp] theorem setSp_cpu_e (v : Word) (s : State) : (setSp v s).cpu.e = s.cpu.e := rfl
@[simp] theorem setSp_cpu_h (v : Word) (s : State) : (setSp v s).cpu.h = s.cpu.h := rfl
@[simp] theorem setSp_cpu_l (v : Word) (s : State) : (setSp v s).cpu.l = s.cpu.l := rfl
@[simp] theorem setSp_cpu_pc (v : Word) (s : State) : (setSp v s).cpu.pc = s.cpu.pc := rfl
@[simp] theorem setSp_cpu_ime (v : Word) (s : State) : (setSp v s).cpu.ime = s.cpu.ime := rfl
@[simp] theorem setSp_cpu_enabling (v : Word) (s : State) : (setSp v s).cpu.enabling = s.cpu.enabling := rfl
@[simp] theorem setSp_cpu_halted (v : Word) (s : State) : (setSp v s).cpu.halted = s.cpu.halted := rfl
@[simp] theorem setSp_cpu_sp (v : Word) (s : State) : (setSp v s).cpu.sp = v := rfl

/-! `setA` -/

@[simp] theorem setA_timer (v : Byte) (s : State) : (setA v s).timer = s.timer := rfl
@[simp] theorem setA_ppu (v : Byte) (s : State) : (setA v s).ppu = s.ppu := rfl
@[simp] theorem setA_hdma (v : Byte) (s : State) : (setA v s).hdma = s.hdma := rfl
@[simp] theorem setA_cart (v : Byte) (s : State) : (setA v s).cart = s.cart := rfl
@[simp] theorem setA_apu (v : Byte) (s : State) : (setA v s).apu = s.apu := rfl
@[simp] theorem setA_wram (v : Byte) (s : State) : (setA v s).wram = s.wram := rfl
@[simp] theorem setA_hram (v : Byte) (s : State) : (setA v s).hram = s.hram := rfl
@[simp] theorem setA_svbk (v : Byte) (s : State) : (setA v s).svbk = s.svbk := rfl
@[simp] theorem setA_ifr (v : Byte) (s : State) : (setA v s).ifr = s.ifr := rfl
@[simp] theorem setA_ie (v : Byte) (s : State) : (setA v s).ie = s.ie := rfl
@[simp] theorem setA_p1 (v : Byte) (s : State) : (setA v s).p1 = s.p1 := rfl
@[simp] theorem setA_inputMask (v : Byte) (s : State) : (setA v s).inputMask = s.inputMask := rfl
@[simp] theorem setA_doubleSpeed (v : Byte) (s : State) : (setA v s).doubleSpeed = s.doubleSpeed := rfl
@[simp] theorem setA_speedArmed (v : Byte) (s : State) : (setA v s).speedArmed = s.speedArmed := rfl
@[simp] theorem setA_cgbMode (v : Byte) (s : State) : (setA v s).cgbMode = s.cgbMode := rfl
@[simp] theorem setA_supportMode (v : Byte) (s : State) : (setA v s).supportMode = s.supportMode := rfl
@[simp] theorem setA_frameCarry (v : Byte) (s : State) : (setA v s).frameCarry = s.frameCarry := rfl
@[simp] theorem setA_fault (v : Byte) (s : State) : (setA v s).fault = s.fault := rfl
@[simp] theorem setA_draws (v : Byte) (s : State) : (setA v s).draws = s.draws := rfl
@[simp] theorem setA_cost (v : Byte) (s : State) : (setA v s).cost = s.cost := rfl
@[simp] theorem setA_charge (v : Byte) (s : State) : (setA v s).charge = s.charge := rfl
@[simp] theorem setA_cpu_f (v : Byte) (s : State) : (setA v s).cpu.f = s.cpu.f := rfl
@[simp] theorem setA_cpu_b (v : Byte) (s : State) : (setA v s).cpu.b = s.cpu.b := rfl
@[simp] theorem setA_cpu_c (v : Byte) (s : State) : (setA v s).cpu.c = s.cpu.c := rfl
@[simp] theorem setA_cpu_d (v : Byte) (s : State) : (setA v s).cpu.d = s.cpu.d := rfl
@[simp] theorem setA_cpu_e (v : Byte) (s : State) : (setA v s).cpu.e = s.cpu.e := rfl
@[simp] theorem setA_cpu_h (v : Byte) (s : State) : (setA v s).cpu.h = s.cpu.h := rfl
@[simp] theorem setA_cpu_l (v : Byte) (s : State) : (setA v s).cpu.l = s.cpu.l := rfl
@[simp] theorem setA_cpu_sp (v : Byte) (s : State) : (setA v s).cpu.sp = s.cpu.sp := rfl
@[simp] theorem setA_cpu_pc (v : Byte) (s : State) : (setA v s).cpu.pc = s.cpu.pc := rfl
@[simp] theorem setA_cpu_ime (v : Byte) (s : State) : (setA v s).cpu.ime = s.cpu.ime := rfl
@[simp] theorem setA_cpu_enabling (v : Byte) (s : State) : (setA v s).cpu.enabling = s.cpu.enabling := rfl
@[simp] theorem setA_cpu_halted (v : Byte) (s : State) : (setA v s).cpu.halted = s.cpu.halted := rfl
@[simp] theorem setA_cpu_a (v : Byte) (s : State) : (setA v s).cpu.a = v := rfl

/-! `setFlags` -/

@[simp] theorem setFlags_timer (g : Flags) (s : State) : (setFlags g s).timer = s.timer := rfl
@[simp] theorem setFlags_ppu (g : Flags) (s : State) : (setFlags g s).ppu = s.ppu := rfl
@[simp] theorem setFlags_hdma (g : Flags) (s : State) : (setFlags g s).hdma = s.hdma := rfl
@[simp] theorem setFlags_cart (g : Flags) (s : State) : (setFlags g s).cart = s.cart := rfl
@[simp] theorem setFlags_apu (g : Flags) (s : State) : (setFlags g s).apu = s.apu := rfl
@[simp] theorem setFlags_wram (g : Flags) (s : State) : (setFlags g s).wram = s.wram := rfl
@[simp] theorem setFlags_hram (g : Flags) (s : State) : (setFlags g s).hram = s.hram := rfl
@[simp] theorem setFlags_svbk (g : Flags) (s : State) : (setFlags g s).svbk = s.svbk := rfl
@[simp] theorem setFlags_ifr (g : Flags) (s : State) : (setFlags g s).ifr = s.ifr := rfl
@[simp] theorem setFlags_ie (g : Flags) (s : State) : (setFlags g s).ie = s.ie := rfl
@[simp] theorem setFlags_p1 (g : Flags) (s : State) : (setFlags g s).p1 = s.p1 := rfl
@[simp] theorem setFlags_inputMask (g : Flags) (s : State) : (setFlags g s).inputMask = s.inputMask := rfl
@[simp] theorem setFlags_doubleSpeed (g : Flags) (s : State) : (setFlags g s).doubleSpeed = s.doubleSpeed := rfl
@[simp] theorem setFlags_speedArmed (g : Flags) (s : State) : (setFlags g s).speedArmed = s.speedArmed := rfl
@[simp] theorem setFlags_cgbMode (g : Flags) (s : State) : (setFlags g s).cgbMode = s.cgbMode := rfl
@[simp] theorem setFlags_supportMode (g : Flags) (s : State) : (setFlags g s).supportMode = s.supportMode := rfl
@[simp] theorem setFlags_frameCarry (g : Flags) (s : State) : (setFlags g s).frameCarry = s.frameCarry := rfl
@[simp] theorem setFlags_fault (g : Flags) (s : State) : (setFlags g s).fault = s.fault := rfl
@[simp] theorem setFlags_draws (g : Flags) (s : State) : (setFlags g s).draws = s.draws := rfl
@[simp] theorem setFlags_cost (g : Flags) (s : State) : (setFlags g s).cost = s.cost := rfl
@[simp] theorem setFlags_charge (g : Flags) (s : State) : (setFlags g s).charge = s.charge := rfl
@[simp] theorem setFlags_cpu_a (g : Flags) (s : State) : (setFlags g s).cpu.a = s.cpu.a := rfl
@[simp] theorem setFlags_cpu_b (g : Flags) (s : State) : (setFlags g s).cpu.b = s.cpu.b := rfl
@[simp] theorem setFlags_cpu_c (g : Flags) (s : State) : (setFlags g s).cpu.c = s.cpu.c := rfl
@[simp] theorem setFlags_cpu_d (g : Flags) (s : State) : (setFlags g s).cpu.d = s.cpu.d := rfl
@[simp] theorem setFlags_cpu_e (g : Flags) (s : State) : (setFlags g s).cpu.e = s.cpu.e := rfl
@[simp] theorem setFlags_cpu_h (g : Flags) (s : State) : (setFlags g s).cpu.h = s.cpu.h := rfl
@[simp] theorem setFlags_cpu_l (g : Flags) (s : State) : (setFlags g s).cpu.l = s.cpu.l := rfl
@[simp] theorem setFlags_cpu_sp (g : Flags) (s : State) : (setFlags g s).cpu.sp = s.cpu.sp := rfl
@[simp] theorem setFlags_cpu_pc (g : Flags) (s : State) : (setFlags g s).cpu.pc = s.cpu.pc := rfl
@[simp] theorem setFlags_cpu_ime (g : Flags) (s : State) : (setFlags g s).cpu.ime = s.cpu.ime := rfl
@[simp] theorem setFlags_cpu_enabling (g : Flags) (s : State) : (setFlags g s).cpu.enabling = s.cpu.enabling := rfl
@[simp] theorem setFlags_cpu_halted (g : Flags) (s : State) : (setFlags g s).cpu.halted = s.cpu.halted := rfl
@[simp] theorem setFlags_cpu_f (g : Flags) (s : State) : (setFlags g s).cpu.f = g := rfl

/-! `setHL` -/

@[simp] theorem setHL_timer (v : Word) (s : State) : (setHL v s).timer = s.timer := rfl
@[simp] theorem setHL_ppu (v : Word) (s : State) : (setHL v s).ppu = s.ppu := rfl
@[simp] theorem setHL_hdma (v : Word) (s : State) : (setHL v s).hdma = s.hdma := rfl
@[simp] theorem setHL_cart (v : Word) (s : State) : (setHL v s).cart = s.cart := rfl
@[simp] theorem setHL_apu (v : Word) (s : State) : (setHL v s).apu = s.apu := rfl
@[simp] theorem setHL_wram (v : Word) (s : State) : (setHL v s).wram = s.wram := rfl
@[simp] theorem setHL_hram (v : Word) (s : State) : (setHL v s).hram = s.hram := rfl
@[simp] theorem setHL_svbk (v : Word) (s : State) : (setHL v s).svbk = s.svbk := rfl
@[simp] theorem setHL_ifr (v : Word) (s : State) : (setHL v s).ifr = s.ifr := rfl
@[simp] theorem setHL_ie (v : Word) (s : State) : (setHL v s).ie = s.ie := rfl
@[simp] theorem setHL_p1 (v : Word) (s : State) : (setHL v s).p1 = s.p1 := rfl
@[simp] theorem setHL_inputMask (v : Word) (s : State) : (setHL v s).inputMask = s.inputMask := rfl
@[simp] theorem setHL_doubleSpeed (v : Word) (s : State) : (setHL v s).doubleSpeed = s.doubleSpeed := rfl
@[simp] theorem setHL_speedArmed (v : Word) (s : State) : (setHL v s).speedArmed = s.speedArmed := rfl
@[simp] theorem setHL_cgbMode (v : Word) (s : State) : (setHL v s).cgbMode = s.cgbMode := rfl
@[simp] theorem setHL_supportMode (v : Word) (s : State) : (setHL v s).supportMode = s.supportMode := rfl
@[simp] theorem setHL_frameCarry (v : Word) (s : State) : (setHL v s).frameCarry = s.frameCarry := rfl
@[simp] theorem setHL_fault (v : Word) (s : State) : (setHL v s).fault = s.fault := rfl
@[simp] theorem setHL_draws (v : Word) (s : State) : (setHL v s).draws = s.draws := rfl
@[simp] theorem setHL_cost (v : Word) (s : State) : (setHL v s).cost = s.cost := rfl
@[simp] theorem setHL_charge (v : Word) (s : State) : (setHL v s).charge = s.charge := rfl
@[simp] theorem setHL_cpu_a (v : Word) (s : State) : (setHL v s).cpu.a = s.cpu.a := rfl
@[simp] theorem setHL_cpu_f (v : Word) (s : State) : (setHL v s).cpu.f = s.cpu.f := rfl
@[simp] theorem setHL_cpu_b (v : Word) (s : State) : (setHL v s).cpu.b = s.cpu.b := rfl
@[simp] theorem setHL_cpu_c (v : Word) (s : State) : (setHL v s).cpu.c = s.cpu.c := rfl
@[simp] theorem setHL_cpu_d (v : Word) (s : State) : (setHL v s).cpu.d = s.cpu.d := rfl
@[simp] theorem setHL_cpu_e (v : Word) (s : State) : (setHL v s).cpu.e = s.cpu.e := rfl
@[simp] theorem setHL_cpu_sp (v : Word) (s : State) : (setHL v s).cpu.sp = s.cpu.sp := rfl
@[simp] theorem setHL_cpu_pc (v : Word) (s : State) : (setHL v s).cpu.pc = s.cpu.pc := rfl
@[simp] theorem setHL_cpu_ime (v : Word) (s : State) : (setHL v s).cpu.ime = s.cpu.ime := rfl
@[simp] theorem setHL_cpu_enabling (v : Word) (s : State) : (setHL v s).cpu.enabling = s.cpu.enabling := rfl
@[simp] theorem setHL_cpu_halted (v : Word) (s : State) : (setHL v s).cpu.halted = s.cpu.halted := rfl
@[simp] theorem setHL_cpu_h (v : Word) (s : State) : (setHL v s).cpu.h = hiByte v := rfl
@[simp] theorem setHL_cpu_l (v : Word) (s : State) : (setHL v s).cpu.l = loByte v := rfl

/-! `request` -/

@[simp] theorem request_cpu (i : Nat) (s : State) : (request i s).cpu = s.cpu := rfl
@[simp] theorem request_timer (i : Nat) (s : State) : (request i s).timer = s.timer := rfl
@[simp] theorem request_ppu (i : Nat) (s : State) : (request i s).ppu = s.ppu := rfl
@[simp] theorem request_hdma (i : Nat) (s : State) : (request i s).hdma = s.hdma := rfl
@[simp] theorem request_cart (i : Nat) (s : State) : (request i s).cart = s.cart := rfl
@[simp] theorem request_apu (i : Nat) (s : State) : (request i s).apu = s.apu := rfl
@[simp] theorem request_wram (i : Nat) (s : State) : (request i s).wram = s.wram := rfl
@[simp] theorem request_hram (i : Nat) (s : State) : (request i s).hram = s.hram := rfl
@[simp] theorem request_svbk (i : Nat) (s : State) : (request i s).svbk = s.svbk := rfl
@[simp] theorem request_ie (i : Nat) (s : State) : (request i s).ie = s.ie := rfl
@[simp] theorem request_p1 (i : Nat) (s : State) : (request i s).p1 = s.p1 := rfl
@[simp] theorem request_inputMask (i : Nat) (s : State) : (request i s).inputMask = s.inputMask := rfl
@[simp] theorem request_doubleSpeed (i : Nat) (s : State) : (request i s).doubleSpeed = s.doubleSpeed := rfl
@[simp] theorem request_speedArmed (i : Nat) (s : State) : (request i s).speedArmed = s.speedArmed := rfl
@[simp] theorem request_cgbMode (i : Nat) (s : State) : (request i s).cgbMode = s.cgbMode := rfl
@[simp] theorem request_supportMode (i : Nat) (s : State) : (request i s).supportMode = s.supportMode := rfl
@[simp] theorem request_frameCarry (i : Nat) (s : State) : (request i s).frameCarry = s.frameCarry := rfl
@[simp] theorem request_fault (i : Nat) (s : State) : (request i s).fault = s.fault := rfl
@[simp] theorem request_draws (i : Nat) (s : State) : (request i s).draws = s.draws := rfl
@[simp] theorem request_cost (i : Nat) (s : State) : (request i s).cost = s.cost := rfl
@[simp] theorem request_charge (i : Nat) (s : State) : (request i s).charge = s.charge := rfl
@[simp] theorem request_ifr (i : Nat) (s : State) : (request i s).ifr = s.ifr ||| ((1 : BitVec 5) <<< i) := rfl

/-! `acceptInterrupt` -/

@[simp] theorem acceptInterrupt_timer (i : Nat) (s : State) : (acceptInterrupt i s).timer = s.timer := rfl
@[simp] theorem acceptInterrupt_ppu (i : Nat) (s : State) : (acceptInterrupt i s).ppu = s.ppu := rfl
@[simp] theorem acceptInterrupt_hdma (i : Nat) (s : State) : (acceptInterrupt i s).hdma = s.hdma := rfl
@[simp] theorem acceptInterrupt_cart (i : Nat) (s : State) : (acceptInterrupt i s).cart = s.cart := rfl
@[simp] theorem acceptInterrupt_apu (i : Nat) (s : State) : (acceptInterrupt i s).apu = s.apu := rfl
@[simp] theorem acceptInterrupt_wram (i : Nat) (s : State) : (acceptInterrupt i s).wram = s.wram := rfl
@[simp] theorem acceptInterrupt_hram (i : Nat) (s : State) : (acceptInterrupt i s).hram = s.hram := rfl
@[simp] theorem acceptInterrupt_svbk (i : Nat) (s : State) : (acceptInterrupt i s).svbk = s.svbk := rfl
@[simp] theorem acceptInterrupt_ie (i : Nat) (s : State) : (acceptInterrupt i s).ie = s.ie := rfl
@[simp] theorem acceptInterrupt_p1 (i : Nat) (s : State) : (acceptInterrupt i s).p1 = s.p1 := rfl
@[simp] theorem acceptInterrupt_inputMask (i : Nat) (s : State) : (acceptInterrupt i s).inputMask = s.inputMask := rfl
@[simp] theorem acceptInterrupt_doubleSpeed (i : Nat) (s : State) : (acceptInterrupt i s).doubleSpeed = s.doubleSpeed := rfl
@[simp] theorem acceptInterrupt_speedArmed (i : Nat) (s : State) : (acceptInterrupt i s).speedArmed = s.speedArmed := rfl
@[simp] theorem acceptInterrupt_cgbMode (i : Nat) (s : State) : (acceptInterrupt i s).cgbMode = s.cgbMode := rfl
@[simp] theorem acceptInterrupt_supportMode (i : Nat) (s : State) : (acceptInterrupt i s).supportMode = s.supportMode := rfl
@[simp] theorem acceptInterrupt_frameCarry (i : Nat) (s : State) : (acceptInterrupt i s).frameCarry = s.frameCarry := rfl
@[simp] theorem acceptInterrupt_fault (i : Nat) (s : State) : (acceptInterrupt i s).fault = s.fault := rfl
@[simp] theorem acceptInterrupt_draws (i : Nat) (s : State) : (acceptInterrupt i s).draws = s.draws := rfl
@[simp] theorem acceptInterrupt_cost (i : Nat) (s : State) : (acceptInterrupt i s).cost = s.cost := rfl
@[simp] theorem acceptInterrupt_charge (i : Nat) (s : State) : (acceptInterrupt i s).charge = s.charge := rfl
@[simp] theorem acceptInterrupt_cpu_a (i : Nat) (s : State) : (acceptInterrupt i s).cpu.a = s.cpu.a := rfl
@[simp] theorem acceptInterrupt_cpu_f (i : Nat) (s : State) : (acceptInterrupt i s).cpu.f = s.cpu.f := rfl
@[simp] theorem acceptInterrupt_cpu_b (i : Nat) (s : State) : (acceptInterrupt i s).cpu.b = s.cpu.b := rfl
@[simp] theorem acceptInterrupt_cpu_c (i : Nat) (s : State) : (acceptInterrupt i s).cpu.c = s.cpu.c := rfl
@[simp] theorem acceptInterrupt_cpu_d (i : Nat) (s : State) : (acceptInterrupt i s).cpu.d = s.cpu.d := rfl
@[simp] theorem acceptInterrupt_cpu_e (i : Nat) (s : State) : (acceptInterrupt i s).cpu.e = s.cpu.e := rfl
@[simp] theorem acceptInterrupt_cpu_h (i : Nat) (s : State) : (acceptInterrupt i s).cpu.h = s.cpu.h := rfl
@[simp] theorem acceptInterrupt_cpu_l (i : Nat) (s : State) : (acceptInterrupt i s).cpu.l = s.cpu.l := rfl
@[simp] theorem acceptInterrupt_cpu_sp (i : Nat) (s : State) : (acceptInterrupt i s).cpu.sp = s.cpu.sp := rfl
@[simp] theorem acceptInterrupt_cpu_pc (i : Nat) (s : State) : (acceptInterrupt i s).cpu.pc = s.cpu.pc := rfl
@[simp] theorem acceptInterrupt_cpu_enabling (i : Nat) (s : State) : (acceptInterrupt i s).cpu.enabling = s.cpu.enabling := rfl
@[simp] theorem acceptInterrupt_cpu_ime (i : Nat) (s : State) : (acceptInterrupt i s).cpu.ime = false := rfl
@[simp] theorem acceptInterrupt_cpu_halted (i : Nat) (s : State) : (acceptInterrupt i s).cpu.halted = false := rfl
@[simp] theorem acceptInterrupt_ifr (i : Nat) (s : State) : (acceptInterrupt i s).ifr = s.ifr &&& ~~~((1 : BitVec 5) <<< i) := rfl

/-! `recordFault` -/

@[simp] theorem recordFault_cpu (r : Fault) (s : State) : (recordFault r s).cpu = s.cpu := rfl
@[simp] theorem recordFault_timer (r : Fault) (s : State) : (recordFault r s).timer = s.timer := rfl
@[simp] theorem recordFault_ppu (r : Fault) (s : State) : (recordFault r s).ppu = s.ppu := rfl
@[simp] theorem recordFault_hdma (r : Fault) (s : State) : (recordFault r s).hdma = s.hdma := rfl
@[simp] theorem recordFault_cart (r : Fault) (s : State) : (recordFault r s).cart = s.cart := rfl
@[simp] theorem recordFault_apu (r : Fault) (s : State) : (recordFault r s).apu = s.apu := rfl
@[simp] theorem recordFault_wram (r : Fault) (s : State) : (recordFault r s).wram = s.wram := rfl
@[simp] theorem recordFault_hram (r : Fault) (s : State) : (recordFault r s).hram = s.hram := rfl
@[simp] theorem recordFault_svbk (r : Fault) (s : State) : (recordFault r s).svbk = s.svbk := rfl
@[simp] theorem recordFault_ifr (r : Fault) (s : State) : (recordFault r s).ifr = s.ifr := rfl
@[simp] theorem recordFault_ie (r : Fault) (s : State) : (recordFault r s).ie = s.ie := rfl
@[simp] theorem recordFault_p1 (r : Fault) (s : State) : (recordFault r s).p1 = s.p1 := rfl
@[simp] theorem recordFault_inputMask (r : Fault) (s : State) : (recordFault r s).inputMask = s.inputMask := rfl
@[simp] theorem recordFault_doubleSpeed (r : Fault) (s : State) : (recordFault r s).doubleSpeed = s.doubleSpeed := rfl
@[simp] theorem recordFault_speedArmed (r : Fault) (s : State) : (recordFault r s).speedArmed = s.speedArmed := rfl
@[simp] theorem recordFault_cgbMode (r : Fault) (s : State) : (recordFault r s).cgbMode = s.cgbMode := rfl
@[simp] theorem recordFault_supportMode (r : Fault) (s : State) : (recordFault r s).supportMode = s.supportMode := rfl
@[simp] theorem recordFault_frameCarry (r : Fault) (s : State) : (recordFault r s).frameCarry = s.frameCarry := rfl
@[simp] theorem recordFault_draws (r : Fault) (s : State) : (recordFault r s).draws = s.draws := rfl
@[simp] theorem recordFault_cost (r : Fault) (s : State) : (recordFault r s).cost = s.cost := rfl
@[simp] theorem recordFault_charge (r : Fault) (s : State) : (recordFault r s).charge = s.charge := rfl
@[simp] theorem recordFault_fault (r : Fault) (s : State) : (recordFault r s).fault = some r := rfl

/-! `switchSpeed` -/

@[simp] theorem switchSpeed_cpu (s : State) : (switchSpeed s).cpu = s.cpu := rfl
@[simp] theorem switchSpeed_timer (s : State) : (switchSpeed s).timer = s.timer := rfl
@[simp] theorem switchSpeed_ppu (s : State) : (switchSpeed s).ppu = s.ppu := rfl
@[simp] theorem switchSpeed_hdma (s : State) : (switchSpeed s).hdma = s.hdma := rfl
@[simp] theorem switchSpeed_cart (s : State) : (switchSpeed s).cart = s.cart := rfl
@[simp] theorem switchSpeed_apu (s : State) : (switchSpeed s).apu = s.apu := rfl
@[simp] theorem switchSpeed_wram (s : State) : (switchSpeed s).wram = s.wram := rfl
@[simp] theorem switchSpeed_hram (s : State) : (switchSpeed s).hram = s.hram := rfl
@[simp] theorem switchSpeed_svbk (s : State) : (switchSpeed s).svbk = s.svbk := rfl
@[simp] theorem switchSpeed_ifr (s : State) : (switchSpeed s).ifr = s.ifr := rfl
@[simp] theorem switchSpeed_ie (s : State) : (switchSpeed s).ie = s.ie := rfl
@[simp] theorem switchSpeed_p1 (s : State) : (switchSpeed s).p1 = s.p1 := rfl
@[simp] theorem switchSpeed_inputMask (s : State) : (switchSpeed s).inputMask = s.inputMask := rfl
@[simp] theorem switchSpeed_cgbMode (s : State) : (switchSpeed s).cgbMode = s.cgbMode := rfl
@[simp] theorem switchSpeed_supportMode (s : State) : (switchSpeed s).supportMode = s.supportMode := rfl
@[simp] theorem switchSpeed_frameCarry (s : State) : (switchSpeed s).frameCarry = s.frameCarry := rfl
@[simp] theorem switchSpeed_fault (s : State) : (switchSpeed s).fault = s.fault := rfl
@[simp] theorem switchSpeed_draws (s : State) : (switchSpeed s).draws = s.draws := rfl
@[simp] theorem switchSpeed_cost (s : State) : (switchSpeed s).cost = s.cost := rfl
@[simp] theorem switchSpeed_charge (s : State) : (switchSpeed s).charge = s.charge := rfl
@[simp] theorem switchSpeed_doubleSpeed (s : State) : (switchSpeed s).doubleSpeed = !s.doubleSpeed := rfl
@[simp] theorem switchSpeed_speedArmed (s : State) : (switchSpeed s).speedArmed = false := rfl

/-! `beginStep` -/

@[simp] theorem beginStep_cpu (s : State) : (beginStep s).cpu = s.cpu := rfl
@[simp] theorem beginStep_timer (s : State) : (beginStep s).timer = s.timer := rfl
@[simp] theorem beginStep_ppu (s : State) : (beginStep s).ppu = s.ppu := rfl
@[simp] theorem beginStep_hdma (s : State) : (beginStep s).hdma = s.hdma := rfl
@[simp] theorem beginStep_cart (s : State) : (beginStep s).cart = s.cart := rfl
@[simp] theorem beginStep_apu (s : State) : (beginStep s).apu = s.apu := rfl
@[simp] theorem beginStep_wram (s : State) : (beginStep s).wram = s.wram := rfl
@[simp] theorem beginStep_hram (s : State) : (beginStep s).hram = s.hram := rfl
@[simp] theorem beginStep_svbk (s : State) : (beginStep s).svbk = s.svbk := rfl
@[simp] theorem beginStep_ifr (s : State) : (beginStep s).ifr = s.ifr := rfl
@[simp] theorem beginStep_ie (s : State) : (beginStep s).ie = s.ie := rfl
@[simp] theorem beginStep_p1 (s : State) : (beginStep s).p1 = s.p1 := rfl
@[simp] theorem beginStep_inputMask (s : State) : (beginStep s).inputMask = s.inputMask := rfl
@[simp] theorem beginStep_doubleSpeed (s : State) : (beginStep s).doubleSpeed = s.doubleSpeed := rfl
@[simp] theorem beginStep_speedArmed (s : State) : (beginStep s).speedArmed = s.speedArmed := rfl
@[simp] theorem beginStep_cgbMode (s : State) : (beginStep s).cgbMode = s.cgbMode := rfl
@[simp] theorem beginStep_supportMode (s : State) : (beginStep s).supportMode = s.supportMode := rfl
@[simp] theorem beginStep_frameCarry (s : State) : (beginStep s).frameCarry = s.frameCarry := rfl
@[simp] theorem beginStep_fault (s : State) : (beginStep s).fault = s.fault := rfl
@[simp] theorem beginStep_draws (s : State) : (beginStep s).draws = s.draws := rfl
@[simp] theorem beginStep_cost (s : State) : (beginStep s).cost = 0 := rfl
@[simp] theorem beginStep_charge (s : State) : (beginStep s).charge = 0 := rfl

/-! `setReg`: every register but the one named keeps its value -/

@[simp] theorem setReg_timer (r : Reg8) (v : Byte) (s : State) : (setReg r v s).timer = s.timer := by cases r <;> rfl
@[simp] theorem setReg_ppu (r : Reg8) (v : Byte) (s : State) : (setReg r v s).ppu = s.ppu := by cases r <;> rfl
@[simp] theorem setReg_hdma (r : Reg8) (v : Byte) (s : State) : (setReg r v s).hdma = s.hdma := by cases r <;> rfl
@[simp] theorem setReg_cart (r : Reg8) (v : Byte) (s : State) : (setReg r v s).cart = s.cart := by cases r <;> rfl
@[simp] theorem setReg_apu (r : Reg8) (v : Byte) (s : State) : (setReg r v s).apu = s.apu := by cases r <;> rfl
@[simp] theorem setReg_wram (r : Reg8) (v : Byte) (s : State) : (setReg r v s).wram = s.wram := by cases r <;> rfl
@[simp] theorem setReg_hram (r : Reg8) (v : Byte) (s : State) : (setReg r v s).hram = s.hram := by cases r <;> rfl
@[simp] theorem setReg_svbk (r : Reg8) (v : Byte) (s : State) : (setReg r v s).svbk = s.svbk := by cases r <;> rfl
@[simp] theorem setReg_ifr (r : Reg8) (v : Byte) (s : State) : (setReg r v s).ifr = s.ifr := by cases r <;> rfl
@[simp] theorem setReg_ie (r : Reg8) (v : Byte) (s : State) : (setReg r v s).ie = s.ie := by cases r <;> rfl
@[simp] theorem setReg_p1 (r : Reg8) (v : Byte) (s : State) : (setReg r v s).p1 = s.p1 := by cases r <;> rfl
@[simp] theorem setReg_inputMask (r : Reg8) (v : Byte) (s : State) : (setReg r v s).inputMask = s.inputMask := by cases r <;> rfl
@[simp] theorem setReg_doubleSpeed (r : Reg8) (v : Byte) (s : State) : (setReg r v s).doubleSpeed = s.doubleSpeed := by cases r <;> rfl
@[simp] theorem setReg_speedArmed (r : Reg8) (v : Byte) (s : State) : (setReg r v s).speedArmed = s.speedArmed := by cases r <;> rfl
@[simp] theorem setReg_cgbMode (r : Reg8) (v : Byte) (s : State) : (setReg r v s).cgbMode = s.cgbMode := by cases r <;> rfl
@[simp] theorem setReg_supportMode (r : Reg8) (v : Byte) (s : State) : (setReg r v s).supportMode = s.supportMode := by cases r <;> rfl
@[simp] theorem setReg_frameCarry (r : Reg8) (v : Byte) (s : State) : (setReg r v s).frameCarry = s.frameCarry := by cases r <;> rfl
@[simp] theorem setReg_fault (r : Reg8) (v : Byte) (s : State) : (setReg r v s).fault = s.fault := by cases r <;> rfl
@[simp] theorem setReg_draws (r : Reg8) (v : Byte) (s : State) : (setReg r v s).draws = s.draws := by cases r <;> rfl
@[simp] theorem setReg_cost (r : Reg8) (v : Byte) (s : State) : (setReg r v s).cost = s.cost := by cases r <;> rfl
@[simp] theorem setReg_charge (r : Reg8) (v : Byte) (s : State) : (setReg r v s).charge = s.charge := by cases r <;> rfl
@[simp] theorem setReg_cpu_f (r : Reg8) (v : Byte) (s : State) : (setReg r v s).cpu.f = s.cpu.f := by cases r <;> rfl
@[simp] theorem setReg_cpu_sp (r : Reg8) (v : Byte) (s : State) : (setReg r v s).cpu.sp = s.cpu.sp := by cases r <;> rfl
@[simp] theorem setReg_cpu_pc (r : Reg8) (v : Byte) (s : State) : (setReg r v s).cpu.pc = s.cpu.pc := by cases r <;> rfl
@[simp] theorem setReg_cpu_ime (r : Reg8) (v : Byte) (s : State) : (setReg r v s).cpu.ime = s.cpu.ime := by cases r <;> rfl
@[simp] theorem setReg_cpu_enabling (r : Reg8) (v : Byte) (s : State) : (setReg r v s).cpu.enabling = s.cpu.enabling := by cases r <;> rfl
@[simp] theorem setReg_cpu_halted (r : Reg8) (v : Byte) (s : State) : (setReg r v s).cpu.halted = s.cpu.halted := by cases r <;> rfl
@[simp] theorem getReg_setReg (r : Reg8) (v : Byte) (s : State) : getReg r (setReg r v s) = v := by cases r <;> rfl
theorem getReg_setReg_ne (q r : Reg8) (v : Byte) (s : State) (h : q ≠ r) :
    getReg q (setReg r v s) = getReg q s := by
  cases q <;> cases r <;> first | rfl | exact absurd rfl h

/-! `setRr` and `setQq` -/

@[simp] theorem setRr_timer (p : Rr) (v : Word) (s : State) : (setRr p v s).timer = s.timer := by cases p <;> rfl
@[simp] theorem setRr_ppu (p : Rr) (v : Word) (s : State) : (setRr p v s).ppu = s.ppu := by cases p <;> rfl
@[simp] theorem setRr_hdma (p : Rr) (v : Word) (s : State) : (setRr p v s).hdma = s.hdma := by cases p <;> rfl
@[simp] theorem setRr_cart (p : Rr) (v : Word) (s : State) : (setRr p v s).cart = s.cart := by cases p <;> rfl
@[simp] theorem setRr_apu (p : Rr) (v : Word) (s : State) : (setRr p v s).apu = s.apu := by cases p <;> rfl
@[simp] theorem setRr_wram (p : Rr) (v : Word) (s : State) : (setRr p v s).wram = s.wram := by cases p <;> rfl
@[simp] theorem setRr_hram (p : Rr) (v : Word) (s : State) : (setRr p v s).hram = s.hram := by cases p <;> rfl
@[simp] theorem setRr_svbk (p : Rr) (v : Word) (s : State) : (setRr p v s).svbk = s.svbk := by cases p <;> rfl
@[simp] theorem setRr_ifr (p : Rr) (v : Word) (s : State) : (setRr p v s).ifr = s.ifr := by cases p <;> rfl
@[simp] theorem setRr_ie (p : Rr) (v : Word) (s : State) : (setRr p v s).ie = s.ie := by cases p <;> rfl
@[simp] theorem setRr_p1 (p : Rr) (v : Word) (s : State) : (setRr p v s).p1 = s.p1 := by cases p <;> rfl
@[simp] theorem setRr_inputMask (p : Rr) (v : Word) (s : State) : (setRr p v s).inputMask = s.inputMask := by cases p <;> rfl
@[simp] theorem setRr_doubleSpeed (p : Rr) (v : Word) (s : State) : (setRr p v s).doubleSpeed = s.doubleSpeed := by cases p <;> rfl
@[simp] theorem setRr_speedArmed (p : Rr) (v : Word) (s : State) : (setRr p v s).speedArmed = s.speedArmed := by cases p <;> rfl
@[simp] theorem setRr_cgbMode (p : Rr) (v : Word) (s : State) : (setRr p v s).cgbMode = s.cgbMode := by cases p <;> rfl
@[simp] theorem setRr_supportMode (p : Rr) (v : Word) (s : State) : (setRr p v s).supportMode = s.supportMode := by cases p <;> rfl
@[simp] theorem setRr_frameCarry (p : Rr) (v : Word) (s : State) : (setRr p v s).frameCarry = s.frameCarry := by cases p <;> rfl
@[simp] theorem setRr_fault (p : Rr) (v : Word) (s : State) : (setRr p v s).fault = s.fault := by cases p <;> rfl
@[simp] theorem setRr_draws (p : Rr) (v : Word) (s : State) : (setRr p v s).draws = s.draws := by cases p <;> rfl
@[simp] theorem setRr_cost (p : Rr) (v : Word) (s : State) : (setRr p v s).cost = s.cost := by cases p <;> rfl
@[simp] theorem setRr_charge (p : Rr) (v : Word) (s : State) : (setRr p v s).charge = s.charge := by cases p <;> rfl
@[simp] theorem setRr_cpu_a (p : Rr) (v : Word) (s : State) : (setRr p v s).cpu.a = s.cpu.a := by cases p <;> rfl
@[simp] theorem setRr_cpu_f (p : Rr) (v : Word) (s : State) : (setRr p v s).cpu.f = s.cpu.f := by cases p <;> rfl
@[simp] theorem setRr_cpu_pc (p : Rr) (v : Word) (s : State) : (setRr p v s).cpu.pc = s.cpu.pc := by cases p <;> rfl
@[simp] theorem setRr_cpu_ime (p : Rr) (v : Word) (s : State) : (setRr p v s).cpu.ime = s.cpu.ime := by cases p <;> rfl
@[simp] theorem setRr_cpu_enabling (p : Rr) (v : Word) (s : State) : (setRr p v s).cpu.enabling = s.cpu.enabling := by cases p <;> rfl
@[simp] theorem setRr_cpu_halted (p : Rr) (v : Word) (s : State) : (setRr p v s).cpu.halted = s.cpu.halted := by cases p <;> rfl
@[simp] theorem setQq_timer (p : Qq) (v : Word) (s : State) : (setQq p v s).timer = s.timer := by cases p <;> rfl
@[simp] theorem setQq_ppu (p : Qq) (v : Word) (s : State) : (setQq p v s).ppu = s.ppu := by cases p <;> rfl
@[simp] theorem setQq_hdma (p : Qq) (v : Word) (s : State) : (setQq p v s).hdma = s.hdma := by cases p <;> rfl
@[simp] theorem setQq_cart (p : Qq) (v : Word) (s : State) : (setQq p v s).cart = s.cart := by cases p <;> rfl
@[simp] theorem setQq_apu (p : Qq) (v : Word) (s : State) : (setQq p v s).apu = s.apu := by cases p <;> rfl
@[simp] theorem setQq_wram (p : Qq) (v : Word) (s : State) : (setQq p v s).wram = s.wram := by cases p <;> rfl
@[simp] theorem setQq_hram (p : Qq) (v : Word) (s : State) : (setQq p v s).hram = s.hram := by cases p <;> rfl
@[simp] theorem setQq_svbk (p : Qq) (v : Word) (s : State) : (setQq p v s).svbk = s.svbk := by cases p <;> rfl
@[simp] theorem setQq_ifr (p : Qq) (v : Word) (s : State) : (setQq p v s).ifr = s.ifr := by cases p <;> rfl
@[simp] theorem setQq_ie (p : Qq) (v : Word) (s : State) : (setQq p v s).ie = s.ie := by cases p <;> rfl
@[simp] theorem setQq_p1 (p : Qq) (v : Word) (s : State) : (setQq p v s).p1 = s.p1 := by cases p <;> rfl
@[simp] theorem setQq_inputMask (p : Qq) (v : Word) (s : State) : (setQq p v s).inputMask = s.inputMask := by cases p <;> rfl
@[simp] theorem setQq_doubleSpeed (p : Qq) (v : Word) (s : State) : (setQq p v s).doubleSpeed = s.doubleSpeed := by cases p <;> rfl
@[simp] theorem setQq_speedArmed (p : Qq) (v : Word) (s : State) : (setQq p v s).speedArmed = s.speedArmed := by cases p <;> rfl
@[simp] theorem setQq_cgbMode (p : Qq) (v : Word) (s : State) : (setQq p v s).cgbMode = s.cgbMode := by cases p <;> rfl
@[simp] theorem setQq_supportMode (p : Qq) (v : Word) (s : State) : (setQq p v s).supportMode = s.supportMode := by cases p <;> rfl
@[simp] theorem setQq_frameCarry (p : Qq) (v : Word) (s : State) : (setQq p v s).frameCarry = s.frameCarry := by cases p <;> rfl
@[simp] theorem setQq_fault (p : Qq) (v : Word) (s : State) : (setQq p v s).fault = s.fault := by cases p <;> rfl
@[simp] theorem setQq_draws (p : Qq) (v : Word) (s : State) : (setQq p v s).draws = s.draws := by cases p <;> rfl
@[simp] theorem setQq_cost (p : Qq) (v : Word) (s : State) : (setQq p v s).cost = s.cost := by cases p <;> rfl
@[simp] theorem setQq_charge (p : Qq) (v : Word) (s : State) : (setQq p v s).charge = s.charge := by cases p <;> rfl
@[simp] theorem setQq_cpu_sp (p : Qq) (v : Word) (s : State) : (setQq p v s).cpu.sp = s.cpu.sp := by cases p <;> rfl
@[simp] theorem setQq_cpu_pc (p : Qq) (v : Word) (s : State) : (setQq p v s).cpu.pc = s.cpu.pc := by cases p <;> rfl
@[simp] theorem setQq_cpu_ime (p : Qq) (v : Word) (s : State) : (setQq p v s).cpu.ime = s.cpu.ime := by cases p <;> rfl
@[simp] theorem setQq_cpu_enabling (p : Qq) (v : Word) (s : State) : (setQq p v s).cpu.enabling = s.cpu.enabling := by cases p <;> rfl
@[simp] theorem setQq_cpu_halted (p : Qq) (v : Word) (s : State) : (setQq p v s).cpu.halted = s.cpu.halted := by cases p <;> rfl

end Sys2Proof.Machine
end

