-- ==== Sys2Proof/Laws/Ops.lean ====
section
/-! SUPPORT. What each shared operation can do, said once: reads, writes, DMA copies, the stack, the parts of a step.
`BusKeeps` is what no bus access changes. -/

namespace Sys2Proof.Machine

/-- The state a result leaves, with or without a fault. -/
def Res.state {α : Type} : Res α → State
  | .ok _ s => s
  | .stop _ s => s

@[simp] theorem Res.state_ok {α : Type} (a : α) (s : State) : (Res.ok a s).state = s := rfl
@[simp] theorem Res.state_stop {α : Type} (r : Fault) (s : State) : (Res.stop r s : Res α).state = s := rfl
@[simp] theorem Res.bind_ok {α β : Type} (a : α) (s : State) (k : α → State → Res β) :
    (Res.ok a s).bind k = k a s := rfl
@[simp] theorem Res.bind_stop {α β : Type} (r : Fault) (s : State) (k : α → State → Res β) :
    (Res.stop r s : Res α).bind k = .stop r s := rfl
@[simp] theorem Res.then_ok {α : Type} (a : α) (s : State) (k : α → State → State) :
    (Res.ok a s).then k = .ok () (k a s) := rfl
@[simp] theorem Res.then_stop {α : Type} (r : Fault) (s : State) (k : α → State → State) :
    (Res.stop r s : Res α).then k = .stop r s := rfl
@[simp] theorem Res.outcome_ok (s : State) : (Res.ok () s).outcome = .next s := rfl
@[simp] theorem Res.outcome_stop (r : Fault) (s : State) : (Res.stop r s).outcome = .next (recordFault r s) := rfl

/-- A bound result ends well exactly when both parts do. -/
theorem Res.bind_eq_ok {α β : Type} {x : Res α} {k : α → State → Res β} {b : β} {t : State} :
    x.bind k = .ok b t ↔ ∃ a s, x = .ok a s ∧ k a s = .ok b t := by
  cases x <;> simp [Res.bind]

/-- A bound result faults in its first part or in its second. -/
theorem Res.bind_eq_stop {α β : Type} {x : Res α} {k : α → State → Res β} {r : Fault} {t : State} :
    x.bind k = .stop r t ↔ x = .stop r t ∨ ∃ a s, x = .ok a s ∧ k a s = .stop r t := by
  cases x <;> simp [Res.bind]

/-! ## Reads -/

@[simp] theorem afterRead_cpu (r : ReadBits) (s : State) : (afterRead r s).cpu = s.cpu := by
  unfold afterRead; split <;> rfl
@[simp] theorem afterRead_fault (r : ReadBits) (s : State) : (afterRead r s).fault = s.fault := by
  unfold afterRead; split <;> rfl
@[simp] theorem afterRead_cart (r : ReadBits) (s : State) : (afterRead r s).cart = s.cart := by
  unfold afterRead; split <;> rfl
@[simp] theorem afterRead_ppu (r : ReadBits) (s : State) : (afterRead r s).ppu = s.ppu := by
  unfold afterRead; split <;> rfl
@[simp] theorem afterRead_hdma (r : ReadBits) (s : State) : (afterRead r s).hdma = s.hdma := by
  unfold afterRead; split <;> rfl

/-- A read takes nothing but a draw (20 R106). -/
theorem afterRead_eq (r : ReadBits) (s : State) : afterRead r s = { s with draws := (afterRead r s).draws } := by
  unfold afterRead; split <;> rfl

@[simp] theorem peek_draws (a : Word) (s : State) (n : Nat) : peek a { s with draws := n } = peek a s := rfl

@[simp] theorem peek_cpu (a : Word) (s : State) (c : Cpu) : peek a { s with cpu := c } = peek a s := rfl

@[simp] theorem peek_cost (a : Word) (s : State) (n : Nat) : peek a { s with cost := n } = peek a s := rfl

@[simp] theorem peek_afterRead (a : Word) (r : ReadBits) (s : State) : peek a (afterRead r s) = peek a s := by
  unfold afterRead; split <;> rfl

/-- A read whose bits are known answers their value. -/
theorem busRead_of_peek {a : Word} {s : State} {r : ReadBits} (h : peek a s = .ok r) :
    busRead a s = .ok (readValue r s) (afterRead r s) := by
  unfold busRead
  rw [h]
  show resolve r s = _
  unfold resolve readValue afterRead
  split
  · next hz => rw [hz]; simp
  · rfl

theorem busRead_of_error {a : Word} {s : State} {e : Fault} (h : peek a s = .error e) :
    busRead a s = .stop e s := by
  unfold busRead; rw [h]

theorem readable_iff {a : Word} {s : State} : readable a s = true ↔ ∃ r, peek a s = .ok r := by
  unfold readable
  cases peek a s <;> simp

/-- The reads that fault (20 R153, R168): past the end of the ROM, or at a missing RTC register. -/
theorem readable_eq (a : Word) (s : State) :
    readable a s =
      if a.toNat < 0x8000 then decide (romIndex s.cart a.toNat < s.cart.romLength)
      else if 0xA000 ≤ a.toNat ∧ a.toNat < 0xC000 then
        (match ramTarget s.cart a.toNat with
          | .badRtc _ => false
          | _ => true)
      else true := by
  unfold readable peek
  dsimp only
  by_cases h1 : a.toNat < 0x8000
  · rw [if_pos h1, if_pos h1]
    unfold peekRom
    by_cases h : romIndex s.cart a.toNat < s.cart.romLength
    · rw [if_pos h, decide_eq_true h]
    · rw [if_neg h, decide_eq_false h]
  rw [if_neg h1, if_neg h1]
  by_cases h2 : a.toNat < 0xA000
  · rw [if_pos h2, if_neg (fun h : 0xA000 ≤ a.toNat ∧ a.toNat < 0xC000 => by omega)]
  rw [if_neg h2]
  by_cases h3 : a.toNat < 0xC000
  · rw [if_pos h3, if_pos ⟨by omega, h3⟩]
    unfold peekCartRam
    cases ramTarget s.cart a.toNat <;> rfl
  rw [if_neg h3, if_neg (fun h : 0xA000 ≤ a.toNat ∧ a.toNat < 0xC000 => h3 h.2)]
  by_cases h4 : a.toNat < 0xE000
  · rw [if_pos h4]
  rw [if_neg h4]
  by_cases h5 : a.toNat < 0xFE00
  · rw [if_pos h5]
  rw [if_neg h5]
  by_cases h6 : a.toNat < 0xFEA0
  · rw [if_pos h6]
  rw [if_neg h6]
  by_cases h7 : a.toNat < 0xFF00
  · rw [if_pos h7]
  rw [if_neg h7]
  by_cases h8 : a.toNat < 0xFF80
  · rw [if_pos h8]
  rw [if_neg h8]
  by_cases h9 : a.toNat < 0xFFFF
  · rw [if_pos h9]
  rw [if_neg h9]

/-- Whether an address can be read depends on the cartridge alone. -/
theorem readable_congr (a : Word) {s t : State} (h : s.cart = t.cart) : readable a s = readable a t := by
  rw [readable_eq, readable_eq, h]

theorem blockReadable_congr (a : Word) (n : Nat) {s t : State} (h : s.cart = t.cart) :
    blockReadable a n s = blockReadable a n t := by
  simp only [blockReadable, readable_congr _ h]

/-! ## What no bus access changes -/

/-- What no bus access changes (20 R105, R140, R142): the CPU, the fault, the mode, the ROM, the input, the counters of
the host and the step. -/
structure BusKeeps (s t : State) : Prop where
  cpu : t.cpu = s.cpu
  fault : t.fault = s.fault
  cgbMode : t.cgbMode = s.cgbMode
  supportMode : t.supportMode = s.supportMode
  doubleSpeed : t.doubleSpeed = s.doubleSpeed
  inputMask : t.inputMask = s.inputMask
  frameCarry : t.frameCarry = s.frameCarry
  cost : t.cost = s.cost
  charge : t.charge = s.charge
  rom : t.cart.rom = s.cart.rom
  romLength : t.cart.romLength = s.cart.romLength
  mbc : t.cart.mbc = s.cart.mbc
  battery : t.cart.battery = s.cart.battery
  soundEnabled : t.apu.soundEnabled = s.apu.soundEnabled

theorem BusKeeps.refl (s : State) : BusKeeps s s :=
  ⟨rfl, rfl, rfl, rfl, rfl, rfl, rfl, rfl, rfl, rfl, rfl, rfl, rfl, rfl⟩

theorem BusKeeps.trans {s t u : State} (h : BusKeeps s t) (k : BusKeeps t u) : BusKeeps s u :=
  ⟨k.cpu.trans h.cpu, k.fault.trans h.fault, k.cgbMode.trans h.cgbMode, k.supportMode.trans h.supportMode,
   k.doubleSpeed.trans h.doubleSpeed, k.inputMask.trans h.inputMask, k.frameCarry.trans h.frameCarry,
   k.cost.trans h.cost, k.charge.trans h.charge, k.rom.trans h.rom, k.romLength.trans h.romLength,
   k.mbc.trans h.mbc, k.battery.trans h.battery, k.soundEnabled.trans h.soundEnabled⟩

theorem busRead_state (a : Word) (s : State) : BusKeeps s (busRead a s).state ∧ (busRead a s).state.cart = s.cart := by
  unfold busRead resolve
  cases peek a s with
  | error e => exact ⟨BusKeeps.refl s, rfl⟩
  | ok r => dsimp only; split <;> exact ⟨⟨rfl, rfl, rfl, rfl, rfl, rfl, rfl, rfl, rfl, rfl, rfl, rfl, rfl, rfl⟩, rfl⟩

/-- OAM DMA changes OAM and takes draws, nothing else. -/
theorem oamDma_state (v : Byte) (n i : Nat) (s : State) :
    ∃ m d, (oamDma v i n s).state = { s with ppu.oam := m, draws := d } := by
  induction n generalizing i s with
  | zero => exact ⟨_, _, rfl⟩
  | succ n ih =>
    unfold oamDma busRead resolve
    cases peek (mkWord v 0 + BitVec.ofNat 16 i) s with
    | error e => exact ⟨_, _, rfl⟩
    | ok r =>
      dsimp only
      split
      · obtain ⟨m, d, h⟩ := ih (i + 1) { s with ppu.oam := s.ppu.oam.set i r.value }
        exact ⟨m, d, h⟩
      · obtain ⟨m, d, h⟩ := ih (i + 1) { s with
          draws := s.draws + 1
          ppu.oam := s.ppu.oam.set i (r.value ||| (Config.draw s.draws &&& r.drawn)) }
        exact ⟨m, d, h⟩

/-- An HDMA copy changes VRAM and the HDMA addresses and takes draws, nothing else. -/
theorem copyBytes_state (n : Nat) (s : State) :
    ∃ m d a b, (copyBytes n s).state =
      { s with ppu.vram := m, draws := d, hdma := { s.hdma with src := a, dst := b } } := by
  induction n generalizing s with
  | zero => exact ⟨_, _, _, _, rfl⟩
  | succ n ih =>
    unfold copyBytes copyByte busRead resolve
    cases peek s.hdma.src s with
    | error e => exact ⟨_, _, _, _, rfl⟩
    | ok r =>
      dsimp only
      split
      · obtain ⟨m, d, a, b, h⟩ := ih { s with
          ppu.vram := s.ppu.vram.set (vramBank s * 0x2000 + (s.hdma.dst &&& 0x1FFF).toNat) r.value
          hdma.src := s.hdma.src + 1
          hdma.dst := 0x8000 ||| ((s.hdma.dst + 1) &&& 0x1FFF) }
        exact ⟨m, d, a, b, h⟩
      · obtain ⟨m, d, a, b, h⟩ := ih { s with
          draws := s.draws + 1
          ppu.vram := s.ppu.vram.set (vramBank s * 0x2000 + (s.hdma.dst &&& 0x1FFF).toNat)
            (r.value ||| (Config.draw s.draws &&& r.drawn))
          hdma.src := s.hdma.src + 1
          hdma.dst := 0x8000 ||| ((s.hdma.dst + 1) &&& 0x1FFF) }
        exact ⟨m, d, a, b, h⟩

/-- A copy whose source can be read does not fault. -/
theorem copyBytes_ok (n : Nat) (s : State) (h : blockReadable s.hdma.src n s = true) :
    ∃ t, copyBytes n s = .ok () t := by
  induction n generalizing s with
  | zero => exact ⟨s, rfl⟩
  | succ n ih =>
    simp only [blockReadable, List.all_eq_true, List.mem_range] at h
    have h0 := h 0 (by omega)
    simp only [BitVec.add_zero] at h0
    obtain ⟨r, hr⟩ := readable_iff.mp h0
    unfold copyBytes copyByte
    rw [busRead_of_peek hr]
    simp only [Res.then_ok, Res.bind_ok]
    apply ih
    simp only [blockReadable, List.all_eq_true, List.mem_range]
    intro i hi
    have := h (i + 1) (by omega)
    rw [readable_congr _ (t := s) (by simp)]
    have e : (afterRead r s).hdma.src + 1 + BitVec.ofNat 16 i = s.hdma.src + BitVec.ofNat 16 (i + 1) := by
      rw [afterRead_hdma, BitVec.add_assoc, Nat.add_comm i 1, BitVec.ofNat_add]; rfl
    show readable ((afterRead r s).hdma.src + 1 + BitVec.ofNat 16 i) s = true
    rw [e]; exact this

/-- OAM DMA whose source can be read does not fault. -/
theorem oamDma_ok (v : Byte) (n i : Nat) (s : State)
    (h : ∀ k, k < n → readable (mkWord v 0 + BitVec.ofNat 16 (i + k)) s = true) : ∃ t, oamDma v i n s = .ok () t := by
  induction n generalizing i s with
  | zero => exact ⟨s, rfl⟩
  | succ n ih =>
    obtain ⟨r, hr⟩ := readable_iff.mp (h 0 (by omega))
    unfold oamDma
    rw [Nat.add_zero] at hr
    rw [busRead_of_peek hr]
    simp only [Res.bind_ok]
    apply ih
    intro k hk
    have := h (k + 1) (by omega)
    rw [readable_congr _ (t := s) (by simp), show i + 1 + k = i + (k + 1) by omega]
    exact this

theorem cartControl_keeps (c : Cart) (n : Nat) (v : Byte) :
    (cartControl c n v).rom = c.rom ∧ (cartControl c n v).romLength = c.romLength ∧
    (cartControl c n v).mbc = c.mbc ∧ (cartControl c n v).battery = c.battery := by
  unfold cartControl mbc1Control mbc2Control mbc3Control mbc5Control
  (repeat' split) <;> exact ⟨rfl, rfl, rfl, rfl⟩

theorem apuWrite_soundEnabled (a : Apu) (p v : Byte) : (a.write p v).soundEnabled = a.soundEnabled := by
  unfold Apu.write Apu.writeAt
  dsimp only
  split
  · split
    · rename_i n _ _
      cases n <;> rfl
    · rfl
  · rfl

theorem writeCartRam_keeps {c d : Cart} {n : Nat} {v : Byte} (h : writeCartRam c n v = .ok d) :
    d.rom = c.rom ∧ d.romLength = c.romLength ∧ d.mbc = c.mbc ∧ d.battery = c.battery := by
  unfold writeCartRam at h
  cases hr : ramTarget c n with
  | absent => rw [hr] at h; cases h; exact ⟨rfl, rfl, rfl, rfl⟩
  | ram i => rw [hr] at h; cases h; exact ⟨rfl, rfl, rfl, rfl⟩
  | nibble i => rw [hr] at h; cases h; exact ⟨rfl, rfl, rfl, rfl⟩
  | rtc i =>
    rw [hr] at h
    cases h
    cases c.rtcIsLatched <;> exact ⟨rfl, rfl, rfl, rfl⟩
  | badRtc x => rw [hr] at h; cases h

theorem BusKeeps.ite {c : Prop} [Decidable c] {s : State} {x y : Res Unit} (hx : c → BusKeeps s x.state)
    (hy : ¬c → BusKeeps s y.state) : BusKeeps s (if c then x else y).state := by
  by_cases h : c
  · rw [if_pos h]; exact hx h
  · rw [if_neg h]; exact hy h

theorem writeHdma5_keeps (v : Byte) (s : State) : BusKeeps s (writeHdma5 v s).state := by
  unfold writeHdma5
  refine BusKeeps.ite (fun _ => ⟨rfl, rfl, rfl, rfl, rfl, rfl, rfl, rfl, rfl, rfl, rfl, rfl, rfl, rfl⟩) fun _ => BusKeeps.ite (fun _ => ?_) fun _ => ⟨rfl, rfl, rfl, rfl, rfl, rfl, rfl, rfl, rfl, rfl, rfl, rfl, rfl, rfl⟩
  obtain ⟨m, d, x, y, h⟩ := copyBytes_state (((v.extractLsb' 0 7).toNat + 1) * 16) s
  cases hc : copyBytes (((v.extractLsb' 0 7).toNat + 1) * 16) s <;>
    (rw [hc] at h; simp only [Res.state_ok, Res.state_stop] at h; subst h; exact ⟨rfl, rfl, rfl, rfl, rfl, rfl, rfl, rfl, rfl, rfl, rfl, rfl, rfl, rfl⟩)

theorem writeCgbIo_keeps (p v : Byte) (s : State) : BusKeeps s (writeCgbIo p v s).state := by
  unfold writeCgbIo
  refine BusKeeps.ite (fun _ => BusKeeps.refl s) fun _ => BusKeeps.ite (fun _ => ⟨rfl, rfl, rfl, rfl, rfl, rfl, rfl, rfl, rfl, rfl, rfl, rfl, rfl, rfl⟩) fun _ =>
    BusKeeps.ite (fun _ => ⟨rfl, rfl, rfl, rfl, rfl, rfl, rfl, rfl, rfl, rfl, rfl, rfl, rfl, rfl⟩) fun _ => BusKeeps.ite (fun _ => ⟨rfl, rfl, rfl, rfl, rfl, rfl, rfl, rfl, rfl, rfl, rfl, rfl, rfl, rfl⟩) fun _ =>
    BusKeeps.ite (fun _ => ⟨rfl, rfl, rfl, rfl, rfl, rfl, rfl, rfl, rfl, rfl, rfl, rfl, rfl, rfl⟩) fun _ => BusKeeps.ite (fun _ => ⟨rfl, rfl, rfl, rfl, rfl, rfl, rfl, rfl, rfl, rfl, rfl, rfl, rfl, rfl⟩) fun _ =>
    BusKeeps.ite (fun _ => ⟨rfl, rfl, rfl, rfl, rfl, rfl, rfl, rfl, rfl, rfl, rfl, rfl, rfl, rfl⟩) fun _ => BusKeeps.ite (fun _ => writeHdma5_keeps v s) fun _ =>
    BusKeeps.ite (fun _ => ⟨rfl, rfl, rfl, rfl, rfl, rfl, rfl, rfl, rfl, rfl, rfl, rfl, rfl, rfl⟩) fun _ => BusKeeps.ite (fun _ => ⟨rfl, rfl, rfl, rfl, rfl, rfl, rfl, rfl, rfl, rfl, rfl, rfl, rfl, rfl⟩) fun _ =>
    BusKeeps.ite (fun _ => ⟨rfl, rfl, rfl, rfl, rfl, rfl, rfl, rfl, rfl, rfl, rfl, rfl, rfl, rfl⟩) fun _ => BusKeeps.ite (fun _ => ⟨rfl, rfl, rfl, rfl, rfl, rfl, rfl, rfl, rfl, rfl, rfl, rfl, rfl, rfl⟩) fun _ =>
    BusKeeps.ite (fun _ => ⟨rfl, rfl, rfl, rfl, rfl, rfl, rfl, rfl, rfl, rfl, rfl, rfl, rfl, rfl⟩) fun _ => BusKeeps.refl s

theorem writeIo_keeps (p v : Byte) (s : State) : BusKeeps s (writeIo p v s).state := by
  unfold writeIo
  refine BusKeeps.ite (fun _ => ⟨rfl, rfl, rfl, rfl, rfl, rfl, rfl, rfl, rfl, rfl, rfl, rfl, rfl, rfl⟩) fun _ => BusKeeps.ite (fun _ => ⟨rfl, rfl, rfl, rfl, rfl, rfl, rfl, rfl, rfl, rfl, rfl, rfl, rfl, rfl⟩) fun _ =>
    BusKeeps.ite (fun _ => ⟨rfl, rfl, rfl, rfl, rfl, rfl, rfl, rfl, rfl, rfl, rfl, rfl, rfl, rfl⟩) fun _ => BusKeeps.ite (fun _ => ⟨rfl, rfl, rfl, rfl, rfl, rfl, rfl, rfl, rfl, rfl, rfl, rfl, rfl, rfl⟩) fun _ =>
    BusKeeps.ite (fun _ => ⟨rfl, rfl, rfl, rfl, rfl, rfl, rfl, rfl, rfl, rfl, rfl, rfl, rfl, rfl⟩) fun _ => BusKeeps.ite (fun _ => ⟨rfl, rfl, rfl, rfl, rfl, rfl, rfl, rfl, rfl, rfl, rfl, rfl, rfl, rfl⟩) fun _ =>
    BusKeeps.ite (fun _ => ?_) fun _ => BusKeeps.ite (fun _ => ⟨rfl, rfl, rfl, rfl, rfl, rfl, rfl, rfl, rfl, rfl, rfl, rfl, rfl, rfl⟩) fun _ =>
    BusKeeps.ite (fun _ => ⟨rfl, rfl, rfl, rfl, rfl, rfl, rfl, rfl, rfl, rfl, rfl, rfl, rfl, rfl⟩) fun _ => BusKeeps.ite (fun _ => ⟨rfl, rfl, rfl, rfl, rfl, rfl, rfl, rfl, rfl, rfl, rfl, rfl, rfl, rfl⟩) fun _ =>
    BusKeeps.ite (fun _ => ⟨rfl, rfl, rfl, rfl, rfl, rfl, rfl, rfl, rfl, rfl, rfl, rfl, rfl, rfl⟩) fun _ => BusKeeps.ite (fun _ => ⟨rfl, rfl, rfl, rfl, rfl, rfl, rfl, rfl, rfl, rfl, rfl, rfl, rfl, rfl⟩) fun _ =>
    BusKeeps.ite (fun _ => ⟨rfl, rfl, rfl, rfl, rfl, rfl, rfl, rfl, rfl, rfl, rfl, rfl, rfl, rfl⟩) fun _ => BusKeeps.ite (fun _ => ?_) fun _ =>
    BusKeeps.ite (fun _ => ⟨rfl, rfl, rfl, rfl, rfl, rfl, rfl, rfl, rfl, rfl, rfl, rfl, rfl, rfl⟩) fun _ => BusKeeps.ite (fun _ => ⟨rfl, rfl, rfl, rfl, rfl, rfl, rfl, rfl, rfl, rfl, rfl, rfl, rfl, rfl⟩) fun _ =>
    BusKeeps.ite (fun _ => ⟨rfl, rfl, rfl, rfl, rfl, rfl, rfl, rfl, rfl, rfl, rfl, rfl, rfl, rfl⟩) fun _ => BusKeeps.ite (fun _ => ⟨rfl, rfl, rfl, rfl, rfl, rfl, rfl, rfl, rfl, rfl, rfl, rfl, rfl, rfl⟩) fun _ =>
    BusKeeps.ite (fun _ => ⟨rfl, rfl, rfl, rfl, rfl, rfl, rfl, rfl, rfl, rfl, rfl, rfl, rfl, rfl⟩) fun _ => writeCgbIo_keeps p v s
  · exact ⟨rfl, rfl, rfl, rfl, rfl, rfl, rfl, rfl, rfl, rfl, rfl, rfl, rfl, apuWrite_soundEnabled _ _ _⟩
  · obtain ⟨m, d, h⟩ := oamDma_state v 160 0 s
    rw [h]; exact ⟨rfl, rfl, rfl, rfl, rfl, rfl, rfl, rfl, rfl, rfl, rfl, rfl, rfl, rfl⟩

theorem writeCart_keeps (n : Nat) (v : Byte) (s : State) : BusKeeps s (writeCart n v s).state := by
  unfold writeCart
  cases h : writeCartRam s.cart n v with
  | error e => exact BusKeeps.refl s
  | ok d =>
    have k := writeCartRam_keeps h
    exact ⟨rfl, rfl, rfl, rfl, rfl, rfl, rfl, rfl, rfl, k.1, k.2.1, k.2.2.1, k.2.2.2, rfl⟩

/-- A bus write keeps what `BusKeeps` names, whether it faults or not. -/
theorem busWrite_keeps (a : Word) (v : Byte) (s : State) : BusKeeps s (busWrite a v s).state := by
  have k := cartControl_keeps s.cart a.toNat v
  unfold busWrite
  refine BusKeeps.ite (fun _ => ⟨rfl, rfl, rfl, rfl, rfl, rfl, rfl, rfl, rfl, k.1, k.2.1, k.2.2.1, k.2.2.2, rfl⟩) fun _ =>
    BusKeeps.ite (fun _ => ⟨rfl, rfl, rfl, rfl, rfl, rfl, rfl, rfl, rfl, rfl, rfl, rfl, rfl, rfl⟩) fun _ => BusKeeps.ite (fun _ => writeCart_keeps _ v s) fun _ =>
    BusKeeps.ite (fun _ => ⟨rfl, rfl, rfl, rfl, rfl, rfl, rfl, rfl, rfl, rfl, rfl, rfl, rfl, rfl⟩) fun _ => BusKeeps.ite (fun _ => ⟨rfl, rfl, rfl, rfl, rfl, rfl, rfl, rfl, rfl, rfl, rfl, rfl, rfl, rfl⟩) fun _ =>
    BusKeeps.ite (fun _ => ⟨rfl, rfl, rfl, rfl, rfl, rfl, rfl, rfl, rfl, rfl, rfl, rfl, rfl, rfl⟩) fun _ => BusKeeps.ite (fun _ => BusKeeps.refl s) fun _ =>
    BusKeeps.ite (fun _ => writeIo_keeps _ v s) fun _ => BusKeeps.ite (fun _ => ⟨rfl, rfl, rfl, rfl, rfl, rfl, rfl, rfl, rfl, rfl, rfl, rfl, rfl, rfl⟩) fun _ => ⟨rfl, rfl, rfl, rfl, rfl, rfl, rfl, rfl, rfl, rfl, rfl, rfl, rfl, rfl⟩

/-! ## Writes that complete -/

theorem Res.ok_ite {c : Prop} [Decidable c] {x y : Res Unit} (hx : c → ∃ t, x = .ok () t)
    (hy : ¬c → ∃ t, y = .ok () t) : ∃ t, (if c then x else y) = .ok () t := by
  by_cases h : c
  · rw [if_pos h]; exact hx h
  · rw [if_neg h]; exact hy h

theorem ramTarget_not_bad {c : Cart} {n : Nat} (h : badRtcSelected c = false) (b : Byte) :
    ramTarget c n ≠ .badRtc b := by
  intro hr
  unfold ramTarget at hr
  unfold badRtcSelected at h
  cases hm : c.mbc <;> cases he : c.ramEnabled <;> simp_all
  split at hr
  · cases hr
  · simp_all

theorem writeCgbIo_ok {p v : Byte} {s : State}
    (h : p = 0x55 → s.cgbMode = true → s.hdma.active = false → bitOf v 7 = false →
      blockReadable s.hdma.src (((v.extractLsb' 0 7).toNat + 1) * 16) s = true) :
    ∃ t, writeCgbIo p v s = .ok () t := by
  unfold writeCgbIo
  refine Res.ok_ite (fun _ => ⟨_, rfl⟩) fun hc => Res.ok_ite (fun _ => ⟨_, rfl⟩) fun _ =>
    Res.ok_ite (fun _ => ⟨_, rfl⟩) fun _ => Res.ok_ite (fun _ => ⟨_, rfl⟩) fun _ =>
    Res.ok_ite (fun _ => ⟨_, rfl⟩) fun _ => Res.ok_ite (fun _ => ⟨_, rfl⟩) fun _ =>
    Res.ok_ite (fun _ => ⟨_, rfl⟩) fun _ => Res.ok_ite (fun hp => ?_) fun _ =>
    Res.ok_ite (fun _ => ⟨_, rfl⟩) fun _ => Res.ok_ite (fun _ => ⟨_, rfl⟩) fun _ =>
    Res.ok_ite (fun _ => ⟨_, rfl⟩) fun _ => Res.ok_ite (fun _ => ⟨_, rfl⟩) fun _ =>
    Res.ok_ite (fun _ => ⟨_, rfl⟩) fun _ => ⟨_, rfl⟩
  unfold writeHdma5
  refine Res.ok_ite (fun _ => ⟨_, rfl⟩) fun ha => Res.ok_ite (fun hb => ?_) fun _ => ⟨_, rfl⟩
  have ha' : s.hdma.active = false := by
    cases hx : s.hdma.active with
    | false => rfl
    | true => exact absurd ⟨hx, hb⟩ ha
  obtain ⟨t, ht⟩ := copyBytes_ok _ s (h hp (by simpa using hc) ha' hb)
  rw [ht]
  exact ⟨_, rfl⟩

theorem writeIo_ok {p v : Byte} {s : State} (h46 : p = 0x46 → blockReadable (mkWord v 0) 160 s = true)
    (h55 : p = 0x55 → s.cgbMode = true → s.hdma.active = false → bitOf v 7 = false →
      blockReadable s.hdma.src (((v.extractLsb' 0 7).toNat + 1) * 16) s = true) :
    ∃ t, writeIo p v s = .ok () t := by
  unfold writeIo
  refine Res.ok_ite (fun _ => ⟨_, rfl⟩) fun _ => Res.ok_ite (fun _ => ⟨_, rfl⟩) fun _ =>
    Res.ok_ite (fun _ => ⟨_, rfl⟩) fun _ => Res.ok_ite (fun _ => ⟨_, rfl⟩) fun _ =>
    Res.ok_ite (fun _ => ⟨_, rfl⟩) fun _ => Res.ok_ite (fun _ => ⟨_, rfl⟩) fun _ =>
    Res.ok_ite (fun _ => ⟨_, rfl⟩) fun _ => Res.ok_ite (fun _ => ⟨_, rfl⟩) fun _ =>
    Res.ok_ite (fun _ => ⟨_, rfl⟩) fun _ => Res.ok_ite (fun _ => ⟨_, rfl⟩) fun _ =>
    Res.ok_ite (fun _ => ⟨_, rfl⟩) fun _ => Res.ok_ite (fun _ => ⟨_, rfl⟩) fun _ =>
    Res.ok_ite (fun _ => ⟨_, rfl⟩) fun _ => Res.ok_ite (fun hp => ?_) fun _ =>
    Res.ok_ite (fun _ => ⟨_, rfl⟩) fun _ => Res.ok_ite (fun _ => ⟨_, rfl⟩) fun _ =>
    Res.ok_ite (fun _ => ⟨_, rfl⟩) fun _ => Res.ok_ite (fun _ => ⟨_, rfl⟩) fun _ =>
    Res.ok_ite (fun _ => ⟨_, rfl⟩) fun _ => writeCgbIo_ok h55
  refine oamDma_ok v 160 0 s fun k hk => ?_
  have := h46 hp
  simp only [blockReadable, List.all_eq_true, List.mem_range] at this
  rw [Nat.zero_add]
  exact this k hk

theorem loByte_toNat (a : Word) : (loByte a).toNat = a.toNat % 256 := by
  simp [loByte, BitVec.extractLsb']

/-- A write that `writable` allows completes, and keeps what `BusKeeps` names. -/
theorem busWrite_of_writable {a : Word} {v : Byte} {s : State} (h : writable a v s = true) :
    ∃ t, busWrite a v s = .ok () t ∧ BusKeeps s t := by
  suffices hs : ∃ t, busWrite a v s = .ok () t by
    obtain ⟨t, ht⟩ := hs
    have := busWrite_keeps a v s
    rw [ht] at this
    exact ⟨t, ht, this⟩
  have key : ∀ p : Byte, p.toNat = a.toNat % 256 → ∀ q : Byte, p = q → 0xFF00 ≤ a.toNat →
      a.toNat = 0xFF00 + q.toNat := by
    intro p hp q hq hlo
    subst hq
    have := a.isLt
    omega
  unfold busWrite
  refine Res.ok_ite (fun _ => ⟨_, rfl⟩) fun h1 => Res.ok_ite (fun _ => ⟨_, rfl⟩) fun h2 =>
    Res.ok_ite (fun h3 => ?_) fun h3 => Res.ok_ite (fun _ => ⟨_, rfl⟩) fun _ =>
    Res.ok_ite (fun _ => ⟨_, rfl⟩) fun _ => Res.ok_ite (fun _ => ⟨_, rfl⟩) fun _ =>
    Res.ok_ite (fun _ => ⟨_, rfl⟩) fun h7 => Res.ok_ite (fun h8 => ?_) fun _ =>
    Res.ok_ite (fun _ => ⟨_, rfl⟩) fun _ => ⟨_, rfl⟩
  · have hw : (0xA000 : Word) ≤ a ∧ a < 0xC000 :=
      ⟨BitVec.le_def.mpr (by simpa using h2), BitVec.lt_def.mpr (by simpa using h3)⟩
    unfold writable at h
    rw [if_pos hw] at h
    have hb : badRtcSelected s.cart = false := by simpa using h
    unfold writeCart writeCartRam
    cases hr : ramTarget s.cart a.toNat with
    | badRtc x => exact absurd hr (ramTarget_not_bad hb x)
    | absent => exact ⟨_, rfl⟩
    | ram i => exact ⟨_, rfl⟩
    | nibble i => exact ⟨_, rfl⟩
    | rtc i => exact ⟨_, rfl⟩
  · have hw : ¬((0xA000 : Word) ≤ a ∧ a < 0xC000) := by
      rintro ⟨_, hb⟩
      have := BitVec.lt_def.mp hb
      simp at this
      omega
    unfold writable at h
    rw [if_neg hw] at h
    refine writeIo_ok (fun hp => ?_) fun hp hc ha hb => ?_
    · have e : a = 0xFF46 := BitVec.eq_of_toNat_eq (key _ (loByte_toNat a) _ hp (by omega))
      rw [if_pos e] at h
      exact h
    · have e : a = 0xFF55 := BitVec.eq_of_toNat_eq (key _ (loByte_toNat a) _ hp (by omega))
      rw [if_neg (by rw [e]; decide), if_pos ⟨e, hc, ha, hb⟩] at h
      exact h

end Sys2Proof.Machine
end

