-- ==== Sys2Proof/Laws/Exec.lean ====
section
/-! SUPPORT. The meaning of each family of instructions as one equation over its encoding fields: exec of the
instruction the table selects is the shared operation of the family. Later proofs cite these and never open exec. -/

namespace Sys2Proof.Machine

theorem exec_alu (op : AluOp) (q : Reg8) (s : State) : exec (aluInstr op q.toR8) s = aluReg op q s := by
  cases op <;> cases q <;> rfl
theorem exec_alu_atHL (op : AluOp) (s : State) : exec (aluInstr op .atHL) s = aluAtHL op s := by cases op <;> rfl
theorem exec_alu_imm (op : AluOp) (n : Byte) (s : State) : exec (aluImmInstr op n) s = aluImm op n s := by
  cases op <;> rfl
theorem exec_inc (q : Reg8) (s : State) : exec (incInstr q.toR8) s = incReg q s := by cases q <;> rfl
theorem exec_dec (q : Reg8) (s : State) : exec (decInstr q.toR8) s = decReg q s := by cases q <;> rfl
theorem exec_incRr (p : Rr) (s : State) : exec (incRrInstr p) s = incPair p s := by cases p <;> rfl
theorem exec_decRr (p : Rr) (s : State) : exec (decRrInstr p) s = decPair p s := by cases p <;> rfl
theorem exec_addHl (p : Rr) (s : State) : exec (addHlInstr p) s = addHlPair p s := by cases p <;> rfl
theorem exec_rot (op : RotOp) (r : R8) (s : State) : exec (rotInstr op r) s = cbRotate op r s := by
  cases op <;> cases r <;> rfl

/-- The eight values of a bit number. -/
theorem bitNumber_cases (b : BitVec 3) :
    b = 0 ∨ b = 1 ∨ b = 2 ∨ b = 3 ∨ b = 4 ∨ b = 5 ∨ b = 6 ∨ b = 7 := by revert b; decide

theorem exec_bit (b : BitVec 3) (r : R8) (s : State) : exec (bitInstr b r) s = cbBit b.toNat r s := by
  obtain h | h | h | h | h | h | h | h := bitNumber_cases b <;> subst h <;> cases r <;> rfl
theorem exec_res (b : BitVec 3) (r : R8) (s : State) : exec (resInstr b r) s = cbRes b.toNat r s := by
  obtain h | h | h | h | h | h | h | h := bitNumber_cases b <;> subst h <;> cases r <;> rfl
theorem exec_set (b : BitVec 3) (r : R8) (s : State) : exec (setInstr b r) s = cbSet b.toNat r s := by
  obtain h | h | h | h | h | h | h | h := bitNumber_cases b <;> subst h <;> cases r <;> rfl

theorem exec_ld (q r : Reg8) (s : State) : exec (ldInstr q.toR8 r.toR8) s = ldRegReg q r s := by
  cases q <;> cases r <;> rfl
theorem exec_ld_imm (q : Reg8) (n : Byte) (s : State) : exec (ldImmInstr q.toR8 n) s = ldRegImm q n s := by
  cases q <;> rfl
theorem exec_ld_atHL (q : Reg8) (s : State) : exec (ldInstr q.toR8 .atHL) s = ldRegAt q (getHL s) 8 s := by
  cases q <;> rfl
theorem exec_st_atHL (q : Reg8) (s : State) :
    exec (ldInstr .atHL q.toR8) s = storeAt (getHL s) (getReg q s) 8 s := by
  cases q <;> rfl
theorem exec_ld_rr (p : Rr) (n : Word) (s : State) : exec (ldRrInstr p n) s = ldRrImm p n s := by cases p <;> rfl
theorem exec_push (p : Qq) (s : State) : exec (pushInstr p) s = pushPair p s := by cases p <;> rfl
theorem exec_pop (p : Qq) (s : State) : exec (popInstr p) s = popPair p s := by cases p <;> rfl

theorem exec_jp_cc (cc : Cond) (a : Word) (s : State) : exec (jpCcInstr cc a) s = jumpIf cc a s := by cases cc <;> rfl
theorem exec_jr_cc (cc : Cond) (e : Byte) (s : State) : exec (jrCcInstr cc e) s = jumpRelIf cc e s := by
  cases cc <;> rfl
theorem exec_call_cc (cc : Cond) (a : Word) (s : State) : exec (callCcInstr cc a) s = callIf cc a s := by
  cases cc <;> rfl
theorem exec_ret_cc (cc : Cond) (s : State) : exec (retCcInstr cc) s = returnIf cc s := by cases cc <;> rfl
theorem exec_rst (y : BitVec 3) (s : State) : exec (rstInstr y) s = callAlways (rstTarget y.toNat) 16 s := by
  obtain h | h | h | h | h | h | h | h := bitNumber_cases y <;> subst h <;> rfl

end Sys2Proof.Machine
end

