-- ==== Sys2Proof/Laws/Effect.lean ====
section
/-! SUPPORT. What an instruction can do, said once for all 512: a chain of register updates, bus reads and bus writes,
ending with its cost or with the fault of a bus access; or the fault of an illegal opcode or of STOP. Invariants of the
step follow by induction over `Effect`. -/

namespace Sys2Proof.Machine

/-- The fault-free effects an instruction is made of. -/
inductive Effect : State → State → Prop
  | refl (s : State) : Effect s s
  | cpu (s : State) (c : Cpu) : Effect s { s with cpu := c }
  | cost (s : State) (n : Nat) : Effect s { s with cost := n }
  | speed (s : State) (h : s.cgbMode = true ∧ s.speedArmed = true) : Effect s (switchSpeed s)
  | read (a : Word) {s t : State} {b : Byte} (h : busRead a s = .ok b t) : Effect s t
  | write (a : Word) (v : Byte) {s t : State} (h : busWrite a v s = .ok () t) : Effect s t
  | trans {s t u : State} (h : Effect s t) (k : Effect t u) : Effect s u

/-- A bus access made in state `u` raises the fault `e` and leaves `t`. -/
def Stops (u : State) (e : Fault) (t : State) : Prop :=
  (∃ a, busRead a u = .stop e t) ∨ ∃ a v, busWrite a v u = .stop e t

/-- The operation made in `s` gives `x`, by effects alone or up to a faulting bus access. -/
def Runs {α : Type} (s : State) (x : Res α) : Prop :=
  match x with
  | .ok _ t => Effect s t
  | .stop e t => ∃ u, Effect s u ∧ Stops u e t

theorem Runs.ok {α : Type} {s t : State} (a : α) (h : Effect s t) : Runs s (Res.ok a t) := h

theorem Runs.after {α : Type} {s t : State} {x : Res α} (h : Effect s t) (k : Runs t x) : Runs s x := by
  cases x with
  | ok a u => exact h.trans k
  | stop e u =>
    obtain ⟨w, hw, hs⟩ := k
    exact ⟨w, h.trans hw, hs⟩

theorem Runs.bind {α β : Type} {s : State} {x : Res α} {k : α → State → Res β} (h : Runs s x)
    (hk : ∀ a t, x = .ok a t → Runs t (k a t)) : Runs s (x.bind k) := by
  cases x with
  | ok a t => exact Runs.after h (hk a t rfl)
  | stop e t => exact h

theorem Runs.then {α : Type} {s : State} {x : Res α} {k : α → State → State} (h : Runs s x)
    (hk : ∀ a t, Effect t (k a t)) : Runs s (x.then k) :=
  h.bind fun a t _ => hk a t

theorem runs_read (a : Word) (s : State) : Runs s (busRead a s) := by
  cases h : busRead a s with
  | ok b t => exact Effect.read a h
  | stop e t => exact ⟨s, Effect.refl s, Or.inl ⟨a, h⟩⟩

theorem runs_write (a : Word) (v : Byte) (s : State) : Runs s (busWrite a v s) := by
  cases h : busWrite a v s with
  | ok b t => exact Effect.write a v h
  | stop e t => exact ⟨s, Effect.refl s, Or.inr ⟨a, v, h⟩⟩

/-- A change of CPU registers and of the model's cost alone. -/
theorem Effect.ofRegs {s t : State} (h : t = { s with cpu := t.cpu, cost := t.cost }) : Effect s t := by
  rw [h]
  exact (Effect.cpu s t.cpu).trans (Effect.cost _ t.cost)

/-- A cost the rules give. -/
abbrev legalCost (n : Nat) : Prop := 4 ≤ n ∧ n ≤ 24

/-- An instruction's answer: its effects and a legal cost, or its effects up to a faulting bus access. -/
def Completes (s : State) (o : Host.Outcome State Fault Refusal) : Prop :=
  ∃ x : Res Unit, o = x.outcome ∧ Runs s x ∧ ∀ t, x = .ok () t → legalCost t.cost

theorem Completes.next {s t : State} (h : Effect s t) (hc : legalCost t.cost) : Completes s (.next t) :=
  ⟨.ok () t, rfl, h, fun u hu => by cases hu; exact hc⟩

theorem Completes.ofRegs (c : Nat) {s t : State} (h : t = { s with cpu := t.cpu, cost := c })
    (hc : legalCost c := by decide) : Completes s (.next t) := by
  have e : t.cost = c := by rw [h]
  exact Completes.next (Effect.ofRegs (by rw [e]; exact h)) (by rw [e]; exact hc)

theorem Completes.spend {α : Type} {s : State} {x : Res α} {k : α → State → State} {c : Nat} (hx : Runs s x)
    (hk : ∀ a t, Effect t (k a t)) (hc : ∀ a t, (k a t).cost = c) (h : legalCost c) :
    Completes s (x.then k).outcome := by
  refine ⟨x.then k, rfl, hx.then hk, fun t ht => ?_⟩
  cases x with
  | ok a u => cases ht; rw [hc]; exact h
  | stop e u => cases ht

theorem Completes.spend_bind {α : Type} {s : State} {x : Res α} {k : α → State → Res Unit} (hx : Runs s x)
    (hk : ∀ a t, x = .ok a t → Runs t (k a t)) (hc : ∀ a t u, k a t = .ok () u → legalCost u.cost) :
    Completes s (x.bind k).outcome := by
  refine ⟨x.bind k, rfl, hx.bind hk, fun t ht => ?_⟩
  cases x with
  | ok a u => exact hc a u t ht
  | stop e u => cases ht

/-! Each shared operation. -/

theorem runs_get8 (r : R8) (s : State) : Runs s (get8 r s) := by
  unfold get8
  split
  · exact Effect.refl s
  · exact runs_read _ s

theorem runs_set8 (r : R8) (v : Byte) (s : State) : Runs s (set8 r v s) := by
  unfold set8
  split
  · rename_i q _; exact Effect.ofRegs (by cases q <;> rfl)
  · exact runs_write _ v s

theorem runs_push16 (v : Word) (s : State) : Runs s (push16 v s) :=
  Runs.bind (Runs.after (Effect.ofRegs rfl) (runs_write _ _ _)) fun _ _ _ =>
    Runs.after (Effect.ofRegs rfl) (runs_write _ _ _)

theorem runs_pop16 (s : State) : Runs s (pop16 s) :=
  Runs.bind (runs_read _ s) fun _ _ _ => Runs.after (Effect.ofRegs rfl) <|
    Runs.bind (runs_read _ _) fun _ _ _ => Runs.ok _ (Effect.ofRegs rfl)

theorem runs_callTo (a : Word) (s : State) : Runs s (callTo a s) :=
  Runs.then (runs_push16 _ s) fun _ _ => Effect.ofRegs rfl

theorem runs_returnFromCall (s : State) : Runs s (returnFromCall s) :=
  Runs.then (runs_pop16 s) fun _ _ => Effect.ofRegs rfl

theorem runs_returnFromInterrupt (s : State) : Runs s (returnFromInterrupt s) :=
  Runs.then (runs_returnFromCall s) fun _ _ => Effect.ofRegs rfl

theorem completes_aluReg (op : AluOp) (q : Reg8) (s : State) : Completes s (aluReg op q s) :=
  Completes.ofRegs 4 (by cases op <;> rfl)
theorem completes_aluImm (op : AluOp) (n : Byte) (s : State) : Completes s (aluImm op n s) :=
  Completes.ofRegs 8 (by cases op <;> rfl)
theorem completes_aluAtHL (op : AluOp) (s : State) : Completes s (aluAtHL op s) :=
  Completes.spend (runs_read _ s) (fun _ _ => Effect.ofRegs (by cases op <;> rfl)) (fun _ _ => rfl)
    (by decide)
theorem completes_incReg (q : Reg8) (s : State) : Completes s (incReg q s) :=
  Completes.ofRegs 4 (by cases q <;> rfl)
theorem completes_decReg (q : Reg8) (s : State) : Completes s (decReg q s) :=
  Completes.ofRegs 4 (by cases q <;> rfl)

theorem completes_modifyAtHL (f : Byte → Flags → Byte × Flags) (s : State) : Completes s (modifyAtHL f s) := by
  refine Completes.spend_bind (runs_read _ s) (fun b t _ => Runs.then
    (Runs.after (Effect.ofRegs (t := setFlags (f b t.cpu.f).2 t) rfl) (runs_write _ _ _)) fun _ u => Effect.cost u _)
    fun b t u h => ?_
  revert h
  cases busWrite (getHL t) (f b t.cpu.f).1 (setFlags (f b t.cpu.f).2 t) with
  | ok c w => intro h; cases h; exact (by decide : legalCost 12)
  | stop e w => intro h; cases h

theorem completes_incPair (p : Rr) (s : State) : Completes s (incPair p s) :=
  Completes.ofRegs 8 (by cases p <;> rfl)
theorem completes_decPair (p : Rr) (s : State) : Completes s (decPair p s) :=
  Completes.ofRegs 8 (by cases p <;> rfl)
theorem completes_addHlPair (p : Rr) (s : State) : Completes s (addHlPair p s) := Completes.ofRegs 8 rfl
theorem completes_ldRegReg (p q : Reg8) (s : State) : Completes s (ldRegReg p q s) :=
  Completes.ofRegs 4 (by cases p <;> rfl)
theorem completes_ldRegImm (p : Reg8) (n : Byte) (s : State) : Completes s (ldRegImm p n s) :=
  Completes.ofRegs 8 (by cases p <;> rfl)
theorem completes_ldRrImm (p : Rr) (n : Word) (s : State) : Completes s (ldRrImm p n s) :=
  Completes.ofRegs 12 (by cases p <;> rfl)
theorem completes_ldRegAt (q : Reg8) (a : Word) {c : Nat} (s : State) (h : legalCost c) :
    Completes s (ldRegAt q a c s) :=
  Completes.spend (runs_read _ s) (fun _ _ => Effect.ofRegs (by cases q <;> rfl)) (fun _ _ => rfl) h
theorem completes_storeAt (a : Word) (v : Byte) {c : Nat} (s : State) (h : legalCost c) :
    Completes s (storeAt a v c s) :=
  Completes.spend (runs_write _ _ s) (fun _ _ => Effect.ofRegs rfl) (fun _ _ => rfl) h
theorem completes_storeAStep (w : Word) (s : State) : Completes s (storeAStep w s) :=
  Completes.spend (runs_write _ _ s) (fun _ _ => Effect.ofRegs rfl) (fun _ _ => rfl) (by decide)
theorem completes_loadAStep (w : Word) (s : State) : Completes s (loadAStep w s) :=
  Completes.spend (runs_read _ s) (fun _ _ => Effect.ofRegs rfl) (fun _ _ => rfl) (by decide)
theorem completes_storeSp (a : Word) (s : State) : Completes s (storeSp a s) :=
  Completes.spend (Runs.bind (runs_write _ _ s) fun _ _ _ => runs_write _ _ _) (fun _ _ => Effect.ofRegs rfl)
    (fun _ _ => rfl) (by decide)
theorem completes_pushPair (p : Qq) (s : State) : Completes s (pushPair p s) :=
  Completes.spend (runs_push16 _ s) (fun _ _ => Effect.ofRegs rfl) (fun _ _ => rfl) (by decide)
theorem completes_popPair (p : Qq) (s : State) : Completes s (popPair p s) :=
  Completes.spend (runs_pop16 s) (fun _ _ => Effect.ofRegs (by cases p <;> rfl)) (fun _ _ => rfl) (by decide)

theorem completes_jumpIf (cc : Cond) (a : Word) (s : State) : Completes s (jumpIf cc a s) := by
  unfold jumpIf
  split
  · exact Completes.ofRegs 16 rfl
  · exact Completes.ofRegs 12 rfl
theorem completes_jumpRelIf (cc : Cond) (e : Byte) (s : State) : Completes s (jumpRelIf cc e s) := by
  unfold jumpRelIf
  split
  · exact Completes.ofRegs 12 rfl
  · exact Completes.ofRegs 8 rfl
theorem completes_callAlways (a : Word) {c : Nat} (s : State) (h : legalCost c) : Completes s (callAlways a c s) :=
  Completes.spend (runs_callTo a s) (fun _ _ => Effect.ofRegs rfl) (fun _ _ => rfl) h
theorem completes_callIf (cc : Cond) (a : Word) (s : State) : Completes s (callIf cc a s) := by
  unfold callIf
  split
  · exact completes_callAlways a s (by decide)
  · exact Completes.ofRegs 12 rfl
theorem completes_return (c : Nat) (s : State) (h : legalCost c) :
    Completes s ((returnFromCall s).then fun _ u => Machine.spend c u).outcome :=
  Completes.spend (runs_returnFromCall s) (fun _ _ => Effect.ofRegs rfl) (fun _ _ => rfl) h
theorem completes_returnIf (cc : Cond) (s : State) : Completes s (returnIf cc s) := by
  unfold returnIf
  split
  · exact completes_return 20 s (by decide)
  · exact Completes.ofRegs 8 rfl
theorem completes_reti (s : State) : Completes s (execReti s) :=
  Completes.spend (runs_returnFromInterrupt s) (fun _ _ => Effect.ofRegs rfl) (fun _ _ => rfl) (by decide)

theorem completes_accRotate (x : Byte × Bool) (s : State) : Completes s (accRotate x s) :=
  Completes.ofRegs 4 rfl

/-- A CB instruction's cost with a write back is legal. -/
theorem legalCost_cbCost (r : R8) : legalCost (cbCost r) := by cases r <;> decide

/-- Every CB instruction that writes back: read, write, then flags and cost. -/
theorem completes_modify (r : R8) (f : Byte → Flags → Byte) (k : Byte → State → State → State) (s : State)
    (hk : ∀ b t u, k b t u = { u with cpu := (k b t u).cpu, cost := (k b t u).cost })
    (hc : ∀ b t u, (k b t u).cost = cbCost r) :
    Completes s ((get8 r s).bind fun b t => (set8 r (f b t.cpu.f) t).then fun _ u => k b t u).outcome := by
  refine Completes.spend_bind (runs_get8 r s) (fun b t _ => Runs.then (runs_set8 r _ t) fun _ u => Effect.ofRegs (hk b t u))
    fun b t u h => ?_
  revert h
  cases set8 r (f b t.cpu.f) t with
  | ok c w => intro h; cases h; rw [hc]; exact legalCost_cbCost r
  | stop e w => intro h; cases h

theorem completes_cbRotate (op : RotOp) (r : R8) (s : State) : Completes s (cbRotate op r s) :=
  completes_modify r (fun b f => (rotApply op b f.c).1) _ s (fun _ _ _ => rfl) fun _ _ _ => rfl
theorem completes_cbRes (b : Nat) (r : R8) (s : State) : Completes s (cbRes b r s) :=
  completes_modify r (fun v _ => res8 v b) _ s (fun _ _ _ => rfl) fun _ _ _ => rfl
theorem completes_cbSet (b : Nat) (r : R8) (s : State) : Completes s (cbSet b r s) :=
  completes_modify r (fun v _ => set8Bit v b) _ s (fun _ _ _ => rfl) fun _ _ _ => rfl
theorem completes_cbBit (b : Nat) (r : R8) (s : State) : Completes s (cbBit b r s) :=
  Completes.spend (runs_get8 r s) (fun _ _ => Effect.ofRegs rfl) (fun _ _ => rfl)
    (by cases r <;> decide)
theorem completes_cbSelected (o : Byte) (s : State) : Completes s (cbSelected o s) := by
  unfold cbSelected
  dsimp only
  split
  · exact completes_cbRotate _ _ s
  · split
    · exact completes_cbBit _ _ s
    · split
      · exact completes_cbRes _ _ s
      · exact completes_cbSet _ _ s

/-- What exec answers: an instruction completes; or it is an illegal opcode; or it is STOP without an armed switch. -/
inductive Answers (i : Instr) (s : State) : Prop
  | completes (h : Completes s (exec i s))
  | illegal (o : Byte) (hi : encode i = [o])
      (hl : o ∈ ([0xD3, 0xDB, 0xDD, 0xE3, 0xE4, 0xEB, 0xEC, 0xED, 0xF4, 0xFC, 0xFD] : List Byte))
      (h : exec i s = .next (recordFault (.illegalOpcode o) s))
  | stop (x : Byte) (hi : i = .stop x) (hn : ¬(s.cgbMode = true ∧ s.speedArmed = true))
      (h : exec i s = .next (recordFault .stopUnmodelled s))

theorem exec_answers (i : Instr) (s : State) : Answers i s := by
  cases i
  case stop x =>
    by_cases h : s.cgbMode = true ∧ s.speedArmed = true
    · refine .completes ?_
      have e : exec (.stop x) s = .next (spend 4 (switchSpeed s)) := by
        show execStop x s = _
        rw [execStop, if_pos (by simp [h.1, h.2])]
      rw [e]
      exact Completes.next ((Effect.speed s h).trans (Effect.cost _ 4)) (by decide : legalCost 4)
    · refine .stop x rfl h ?_
      show execStop x s = _
      rw [execStop, if_neg (by simpa using h)]
      rfl
  case nop | daa | cpl | scf | ccf | halt | jp_hl | di | ei =>
    exact .completes (Completes.ofRegs 4 rfl)
  case ld_bc_n16 | ld_de_n16 | ld_hl_n16 | ld_sp_n16 =>
    exact .completes (completes_ldRrImm _ _ s)
  case ld_atBC_a | ld_atDE_a | ld_atHL_n8 | ld_atHL_b | ld_atHL_c | ld_atHL_d | ld_atHL_e | ld_atHL_h | ld_atHL_l
      | ld_atHL_a | ldh_atA8_a | ld_atC_a | ld_atA16_a =>
    exact .completes (completes_storeAt _ _ s (by decide))
  case inc_bc | inc_de | inc_hl | inc_sp =>
    exact .completes (completes_incPair _ s)
  case inc_b | inc_c | inc_d | inc_e | inc_h | inc_l | inc_a =>
    exact .completes (completes_incReg _ s)
  case dec_b | dec_c | dec_d | dec_e | dec_h | dec_l | dec_a =>
    exact .completes (completes_decReg _ s)
  case ld_b_n8 | ld_c_n8 | ld_d_n8 | ld_e_n8 | ld_h_n8 | ld_l_n8 | ld_a_n8 =>
    exact .completes (completes_ldRegImm _ _ s)
  case rlca | rrca | rla | rra =>
    exact .completes (completes_accRotate _ s)
  case ld_atA16_sp =>
    exact .completes (completes_storeSp _ s)
  case add_hl_bc | add_hl_de | add_hl_hl | add_hl_sp =>
    exact .completes (completes_addHlPair _ s)
  case ld_a_atBC | ld_a_atDE | ld_b_atHL | ld_c_atHL | ld_d_atHL | ld_e_atHL | ld_h_atHL | ld_l_atHL | ld_a_atHL |
      ldh_a_atA8 | ld_a_atC | ld_a_atA16 =>
    exact .completes (completes_ldRegAt _ _ s (by decide))
  case dec_bc | dec_de | dec_hl | dec_sp =>
    exact .completes (completes_decPair _ s)
  case jr_e8 | ld_hl_spE8 =>
    exact .completes (Completes.ofRegs 12 rfl)
  case jr_nz_e8 | jr_z_e8 | jr_nc_e8 | jr_c_e8 =>
    exact .completes (completes_jumpRelIf _ _ s)
  case ld_atHLI_a | ld_atHLD_a =>
    exact .completes (completes_storeAStep _ s)
  case ld_a_atHLI | ld_a_atHLD =>
    exact .completes (completes_loadAStep _ s)
  case inc_atHL | dec_atHL =>
    exact .completes (completes_modifyAtHL _ s)
  case ld_b_b | ld_b_c | ld_b_d | ld_b_e | ld_b_h | ld_b_l | ld_b_a | ld_c_b | ld_c_c | ld_c_d | ld_c_e | ld_c_h |
      ld_c_l | ld_c_a | ld_d_b | ld_d_c | ld_d_d | ld_d_e | ld_d_h | ld_d_l | ld_d_a | ld_e_b | ld_e_c | ld_e_d |
      ld_e_e | ld_e_h | ld_e_l | ld_e_a | ld_h_b | ld_h_c | ld_h_d | ld_h_e | ld_h_h | ld_h_l | ld_h_a | ld_l_b |
      ld_l_c | ld_l_d | ld_l_e | ld_l_h | ld_l_l | ld_l_a | ld_a_b | ld_a_c | ld_a_d | ld_a_e | ld_a_h | ld_a_l |
      ld_a_a =>
    exact .completes (completes_ldRegReg _ _ s)
  case add_a_b | add_a_c | add_a_d | add_a_e | add_a_h | add_a_l | add_a_a | adc_a_b | adc_a_c | adc_a_d | adc_a_e
      | adc_a_h | adc_a_l | adc_a_a | sub_b | sub_c | sub_d | sub_e | sub_h | sub_l | sub_a | sbc_a_b | sbc_a_c |
      sbc_a_d | sbc_a_e | sbc_a_h | sbc_a_l | sbc_a_a | and_b | and_c | and_d | and_e | and_h | and_l | and_a |
      xor_b | xor_c | xor_d | xor_e | xor_h | xor_l | xor_a | or_b | or_c | or_d | or_e | or_h | or_l | or_a | cp_b
      | cp_c | cp_d | cp_e | cp_h | cp_l | cp_a =>
    exact .completes (completes_aluReg _ _ s)
  case add_a_atHL | adc_a_atHL | sub_atHL | sbc_a_atHL | and_atHL | xor_atHL | or_atHL | cp_atHL =>
    exact .completes (completes_aluAtHL _ s)
  case ret_nz | ret_z | ret_nc | ret_c =>
    exact .completes (completes_returnIf _ s)
  case pop_bc | pop_de | pop_hl | pop_af =>
    exact .completes (completes_popPair _ s)
  case jp_nz_a16 | jp_z_a16 | jp_nc_a16 | jp_c_a16 =>
    exact .completes (completes_jumpIf _ _ s)
  case jp_a16 | add_sp_e8 =>
    exact .completes (Completes.ofRegs 16 rfl)
  case call_nz_a16 | call_z_a16 | call_nc_a16 | call_c_a16 =>
    exact .completes (completes_callIf _ _ s)
  case push_bc | push_de | push_hl | push_af =>
    exact .completes (completes_pushPair _ s)
  case add_a_n8 | adc_a_n8 | sub_n8 | sbc_a_n8 | and_n8 | xor_n8 | or_n8 | cp_n8 =>
    exact .completes (completes_aluImm _ _ s)
  case rst_00 | call_a16 | rst_08 | rst_10 | rst_18 | rst_20 | rst_28 | rst_30 | rst_38 =>
    exact .completes (completes_callAlways _ s (by decide))
  case ret =>
    exact .completes (completes_return 16 s (by decide))
  case prefix_cb =>
    exact .completes (completes_cbSelected _ s)
  case illegal_d3 | illegal_db | illegal_dd | illegal_e3 | illegal_e4 | illegal_eb | illegal_ec | illegal_ed |
      illegal_f4 | illegal_fc | illegal_fd =>
    exact .illegal _ rfl (by decide) rfl
  case reti =>
    exact .completes (completes_reti s)
  case ld_sp_hl =>
    exact .completes (Completes.ofRegs 8 rfl)
  case rlc_b | rlc_c | rlc_d | rlc_e | rlc_h | rlc_l | rlc_atHL | rlc_a | rrc_b | rrc_c | rrc_d | rrc_e | rrc_h |
      rrc_l | rrc_atHL | rrc_a | rl_b | rl_c | rl_d | rl_e | rl_h | rl_l | rl_atHL | rl_a | rr_b | rr_c | rr_d |
      rr_e | rr_h | rr_l | rr_atHL | rr_a | sla_b | sla_c | sla_d | sla_e | sla_h | sla_l | sla_atHL | sla_a | sra_b
      | sra_c | sra_d | sra_e | sra_h | sra_l | sra_atHL | sra_a | swap_b | swap_c | swap_d | swap_e | swap_h |
      swap_l | swap_atHL | swap_a | srl_b | srl_c | srl_d | srl_e | srl_h | srl_l | srl_atHL | srl_a =>
    apply Answers.completes; unfold exec; exact completes_cbRotate _ _ s
  case bit_0_b | bit_0_c | bit_0_d | bit_0_e | bit_0_h | bit_0_l | bit_0_atHL | bit_0_a | bit_1_b | bit_1_c |
      bit_1_d | bit_1_e | bit_1_h | bit_1_l | bit_1_atHL | bit_1_a | bit_2_b | bit_2_c | bit_2_d | bit_2_e | bit_2_h
      | bit_2_l | bit_2_atHL | bit_2_a | bit_3_b | bit_3_c | bit_3_d | bit_3_e | bit_3_h | bit_3_l | bit_3_atHL |
      bit_3_a | bit_4_b | bit_4_c | bit_4_d | bit_4_e | bit_4_h | bit_4_l | bit_4_atHL | bit_4_a | bit_5_b | bit_5_c
      | bit_5_d | bit_5_e | bit_5_h | bit_5_l | bit_5_atHL | bit_5_a | bit_6_b | bit_6_c | bit_6_d | bit_6_e |
      bit_6_h | bit_6_l | bit_6_atHL | bit_6_a | bit_7_b | bit_7_c | bit_7_d | bit_7_e | bit_7_h | bit_7_l |
      bit_7_atHL | bit_7_a =>
    apply Answers.completes; unfold exec; exact completes_cbBit _ _ s
  case res_0_b | res_0_c | res_0_d | res_0_e | res_0_h | res_0_l | res_0_atHL | res_0_a | res_1_b | res_1_c |
      res_1_d | res_1_e | res_1_h | res_1_l | res_1_atHL | res_1_a | res_2_b | res_2_c | res_2_d | res_2_e | res_2_h
      | res_2_l | res_2_atHL | res_2_a | res_3_b | res_3_c | res_3_d | res_3_e | res_3_h | res_3_l | res_3_atHL |
      res_3_a | res_4_b | res_4_c | res_4_d | res_4_e | res_4_h | res_4_l | res_4_atHL | res_4_a | res_5_b | res_5_c
      | res_5_d | res_5_e | res_5_h | res_5_l | res_5_atHL | res_5_a | res_6_b | res_6_c | res_6_d | res_6_e |
      res_6_h | res_6_l | res_6_atHL | res_6_a | res_7_b | res_7_c | res_7_d | res_7_e | res_7_h | res_7_l |
      res_7_atHL | res_7_a =>
    apply Answers.completes; unfold exec; exact completes_cbRes _ _ s
  case set_0_b | set_0_c | set_0_d | set_0_e | set_0_h | set_0_l | set_0_atHL | set_0_a | set_1_b | set_1_c |
      set_1_d | set_1_e | set_1_h | set_1_l | set_1_atHL | set_1_a | set_2_b | set_2_c | set_2_d | set_2_e | set_2_h
      | set_2_l | set_2_atHL | set_2_a | set_3_b | set_3_c | set_3_d | set_3_e | set_3_h | set_3_l | set_3_atHL |
      set_3_a | set_4_b | set_4_c | set_4_d | set_4_e | set_4_h | set_4_l | set_4_atHL | set_4_a | set_5_b | set_5_c
      | set_5_d | set_5_e | set_5_h | set_5_l | set_5_atHL | set_5_a | set_6_b | set_6_c | set_6_d | set_6_e |
      set_6_h | set_6_l | set_6_atHL | set_6_a | set_7_b | set_7_c | set_7_d | set_7_e | set_7_h | set_7_l |
      set_7_atHL | set_7_a =>
    apply Answers.completes; unfold exec; exact completes_cbSet _ _ s

end Sys2Proof.Machine
end

