-- ==== Sys2Proof/Laws/Memory.lean ====
section
/-! SUPPORT. The laws of a byte array: reading what was written, the canonical form and the size kept by every
operation, and the form of every array at reset. -/

namespace Sys2Proof.Machine

theorem Memory.wfFrom_cons {lo k : Nat} {v : Byte} {t : Memory} :
    Memory.wfFrom lo ((k, v) :: t) = true ↔ lo ≤ k ∧ v ≠ Memory.unlisted ∧ Memory.wfFrom (k + 1) t = true := by
  simp [Memory.wfFrom, and_assoc]

theorem Memory.wfFrom_mono {lo hi : Nat} (m : Memory) (h : lo ≤ hi) (w : Memory.wfFrom hi m = true) :
    Memory.wfFrom lo m = true := by
  cases m with
  | nil => rfl
  | cons c t =>
    rw [Memory.wfFrom_cons] at w ⊢
    exact ⟨h.trans w.1, w.2⟩

theorem Memory.get_of_lt {lo i : Nat} (m : Memory) (w : Memory.wfFrom lo m = true) (h : i < lo) :
    Memory.get m i = Memory.unlisted := by
  induction m generalizing lo with
  | nil => rfl
  | cons c t ih =>
    obtain ⟨k, v⟩ := c
    rw [Memory.wfFrom_cons] at w
    have hk : i ≠ k := by omega
    simp only [Memory.get, hk, if_false]
    exact ih w.2.2 (by omega)

theorem Memory.wfFrom_consCell {lo k : Nat} {v : Byte} {t : Memory} (h : lo ≤ k)
    (w : Memory.wfFrom (k + 1) t = true) : Memory.wfFrom lo (Memory.cons k v t) = true := by
  unfold Memory.cons
  split
  · exact Memory.wfFrom_mono t (by omega) w
  · next hv => exact Memory.wfFrom_cons.mpr ⟨h, hv, w⟩

/-- Storing a byte keeps the canonical form. -/
theorem Memory.wfFrom_set {lo i : Nat} (m : Memory) (v : Byte) (h : lo ≤ i) (w : Memory.wfFrom lo m = true) :
    Memory.wfFrom lo (Memory.set m i v) = true := by
  induction m generalizing lo with
  | nil => exact Memory.wfFrom_consCell h rfl
  | cons c t ih =>
    obtain ⟨k, x⟩ := c
    have w' := Memory.wfFrom_cons.mp w
    unfold Memory.set
    split
    · exact Memory.wfFrom_consCell h (Memory.wfFrom_cons.mpr ⟨by omega, w'.2⟩)
    · split
      · next hik => subst hik; exact Memory.wfFrom_consCell h w'.2.2
      · exact Memory.wfFrom_cons.mpr ⟨w'.1, w'.2.1, ih (by omega) w'.2.2⟩

theorem Memory.wf_set (m : Memory) (i : Nat) (v : Byte) (w : m.wf = true) : (m.set i v).wf = true :=
  Memory.wfFrom_set m v (Nat.zero_le i) w

theorem Memory.below_consCell {n k : Nat} {v : Byte} {t : Memory} (h : k < n) (b : Memory.below n t = true) :
    Memory.below n (Memory.cons k v t) = true := by
  unfold Memory.cons
  split
  · exact b
  · simp only [Memory.below, List.all_cons, h, decide_true, Bool.true_and]; exact b

/-- Storing a byte below the size keeps every index below it. -/
theorem Memory.below_set {n i : Nat} (m : Memory) (v : Byte) (h : i < n) (b : m.below n = true) :
    (m.set i v).below n = true := by
  induction m with
  | nil => exact Memory.below_consCell h rfl
  | cons c t ih =>
    obtain ⟨k, x⟩ := c
    have b' : k < n ∧ Memory.below n t = true := by simpa [Memory.below] using b
    unfold Memory.set
    split
    · exact Memory.below_consCell h b
    · split
      · exact Memory.below_consCell h b'.2
      · have := ih b'.2
        simp only [Memory.below, List.all_cons, b'.1, decide_true, Bool.true_and]; exact this

theorem Memory.get_consCell {k j : Nat} {v : Byte} {t : Memory} (w : Memory.wfFrom (k + 1) t = true) :
    Memory.get (Memory.cons k v t) j = if j = k then v else Memory.get t j := by
  unfold Memory.cons
  split
  · next hv =>
    split
    · next hj => subst hj; rw [hv]; exact Memory.get_of_lt t w (by omega)
    · rfl
  · rfl

theorem Memory.get_set_from {lo : Nat} (m : Memory) (i j : Nat) (v : Byte) (w : Memory.wfFrom lo m = true) :
    Memory.get (Memory.set m i v) j = if j = i then v else Memory.get m j := by
  induction m generalizing lo with
  | nil => exact Memory.get_consCell rfl
  | cons c t ih =>
    obtain ⟨k, x⟩ := c
    have w' := Memory.wfFrom_cons.mp w
    unfold Memory.set
    split
    · next hik => exact Memory.get_consCell (Memory.wfFrom_cons.mpr ⟨by omega, w'.2⟩)
    · split
      · next hik =>
        subst hik
        rw [Memory.get_consCell w'.2.2]
        simp only [Memory.get]
        split <;> rfl
      · simp only [Memory.get, ih w'.2.2]
        split
        · next hjk => rw [if_neg (by omega)]
        · rfl

/-- A read after a write: the byte written at its index, every other byte as before. -/
theorem Memory.get_set (m : Memory) (i j : Nat) (v : Byte) (w : m.wf = true) :
    (m.set i v).get j = if j = i then v else m.get j :=
  Memory.get_set_from m i j v w

theorem Memory.wfFrom_ofBytesFrom {lo i : Nat} (bs : List Byte) (h : lo ≤ i) :
    Memory.wfFrom lo (Memory.ofBytesFrom i bs) = true := by
  induction bs generalizing lo i with
  | nil => rfl
  | cons v t ih => exact Memory.wfFrom_consCell h (ih (Nat.le_refl _))

theorem Memory.wf_ofBytes (bs : List Byte) : (Memory.ofBytes bs).wf = true :=
  Memory.wfFrom_ofBytesFrom bs (Nat.le_refl 0)

theorem Memory.below_ofBytesFrom {n i : Nat} (bs : List Byte) (h : i + bs.length ≤ n) :
    (Memory.ofBytesFrom i bs).below n = true := by
  induction bs generalizing i with
  | nil => rfl
  | cons v t ih =>
    simp only [List.length_cons] at h
    exact Memory.below_consCell (by omega) (ih (by omega))

theorem Memory.get_ofBytesFrom (bs : List Byte) (i j : Nat) :
    Memory.get (Memory.ofBytesFrom i bs) (i + j) = bs.getD j Memory.unlisted := by
  induction bs generalizing i j with
  | nil => rfl
  | cons v t ih =>
    rw [Memory.ofBytesFrom, Memory.get_consCell (Memory.wfFrom_ofBytesFrom t (Nat.le_refl _))]
    cases j with
    | zero => simp
    | succ j =>
      rw [if_neg (by omega), show i + (j + 1) = (i + 1) + j by omega, ih]
      simp

/-- The byte array of a byte list reads as the list. -/
theorem Memory.get_ofBytes (bs : List Byte) (j : Nat) : (Memory.ofBytes bs).get j = bs.getD j Memory.unlisted := by
  have := Memory.get_ofBytesFrom bs 0 j
  rwa [Nat.zero_add] at this

theorem Memory.wf_setBytes {size : Nat} (bs : List Byte) (m : Memory) (i : Nat) (w : m.wf = true) :
    (m.setBytes size i bs).wf = true := by
  induction bs generalizing m i with
  | nil => exact w
  | cons v t ih =>
    unfold Memory.setBytes
    split
    · exact ih _ _ (Memory.wf_set m i v w)
    · exact w

theorem Memory.below_setBytes {size : Nat} (bs : List Byte) (m : Memory) (i : Nat) (b : m.below size = true) :
    (m.setBytes size i bs).below size = true := by
  induction bs generalizing m i with
  | nil => exact b
  | cons v t ih =>
    unfold Memory.setBytes
    split
    · next h => exact ih _ _ (Memory.below_set m v h b)
    · exact b

/-- The bytes of an array from an index on, read one by one. -/
theorem Memory.getD_bytes (m : Memory) (i n j : Nat) (h : j < n) : (m.bytes i n).getD j 0 = m.get (i + j) := by
  induction n generalizing i j with
  | zero => omega
  | succ n ih =>
    cases j with
    | zero => simp [Memory.bytes]
    | succ j =>
      have := ih (i + 1) j (by omega)
      simp only [Memory.bytes, List.getD_cons_succ, this]
      congr 1; omega

theorem Memory.length_bytes (m : Memory) (i n : Nat) : (m.bytes i n).length = n := by
  induction n generalizing i with
  | zero => rfl
  | succ n ih => simp [Memory.bytes, ih]

/-- Equal contents in canonical form are equal data. -/
theorem Memory.ext_of_wfFrom {lo : Nat} (m k : Memory) (wm : Memory.wfFrom lo m = true)
    (wk : Memory.wfFrom lo k = true) (h : ∀ i, Memory.get m i = Memory.get k i) : m = k := by
  induction m generalizing lo k with
  | nil =>
    cases k with
    | nil => rfl
    | cons c t =>
      obtain ⟨j, v⟩ := c
      have := h j
      simp only [Memory.get, if_true] at this
      exact absurd this.symm (Memory.wfFrom_cons.mp wk).2.1
  | cons c t ih =>
    obtain ⟨i, x⟩ := c
    have wm' := Memory.wfFrom_cons.mp wm
    cases k with
    | nil =>
      have := h i
      simp only [Memory.get, if_true] at this
      exact absurd this wm'.2.1
    | cons d u =>
      obtain ⟨j, y⟩ := d
      have wk' := Memory.wfFrom_cons.mp wk
      have hij : i = j := by
        by_contra hne
        rcases Nat.lt_or_ge i j with hlt | hge
        · have := h i
          simp only [Memory.get, if_true, if_neg hne] at this
          exact wm'.2.1 (this.trans (Memory.get_of_lt u wk'.2.2 (by omega)))
        · have := h j
          simp only [Memory.get, if_true, if_neg (Ne.symm hne)] at this
          exact wk'.2.1 (this.symm.trans (Memory.get_of_lt t wm'.2.2 (by omega)))
      subst hij
      have hxy : x = y := by have := h i; simpa [Memory.get] using this
      subst hxy
      congr 1
      refine ih u wm'.2.2 wk'.2.2 fun n => ?_
      by_cases hn : n = i
      · subst hn
        rw [Memory.get_of_lt t wm'.2.2 (by omega), Memory.get_of_lt u wk'.2.2 (by omega)]
      · have := h n
        simpa [Memory.get, hn] using this

theorem Memory.ext (m k : Memory) (wm : m.wf = true) (wk : k.wf = true) (h : ∀ i, m.get i = k.get i) : m = k :=
  Memory.ext_of_wfFrom m k wm wk h

/-- Every byte array at reset has the canonical form. -/
theorem reset_memories_wf :
    State.reset.ppu.vram.wf = true ∧ State.reset.ppu.oam.wf = true ∧ State.reset.ppu.bgPal.wf = true ∧
    State.reset.ppu.objPal.wf = true ∧ State.reset.cart.rom.wf = true ∧ State.reset.cart.ram.wf = true ∧
    State.reset.cart.mbc2Ram.wf = true ∧ State.reset.cart.rtcLive.wf = true ∧ State.reset.cart.rtcLatched.wf = true ∧
    State.reset.wram.wf = true ∧ State.reset.hram.wf = true ∧ State.reset.apu.regs.wf = true ∧
    State.reset.apu.wave.wf = true := by
  decide

end Sys2Proof.Machine
end

