-- ==== Sys2Proof/Laws/Stack.lean ====
section
/-! SUPPORT. The two halves of a word, F as a byte, and every way a push and a pop can end. -/

namespace Sys2Proof.Machine

theorem mkWord_hi_lo (v : Word) : mkWord (hiByte v) (loByte v) = v := by
  apply BitVec.eq_of_getLsbD_eq
  intro i hi
  simp only [mkWord, hiByte, loByte, BitVec.getLsbD_append, BitVec.getLsbD_extractLsb']
  by_cases h : i < 8
  · simp [h]
  · have e : 8 + (i - 8) = i := by omega
    have e2 : i - 8 < 8 := by omega
    simp [h, e, e2]

theorem hiByte_mkWord (a b : Byte) : hiByte (mkWord a b) = a := by
  apply BitVec.eq_of_getLsbD_eq
  intro i hi
  simp only [mkWord, hiByte, BitVec.getLsbD_append, BitVec.getLsbD_extractLsb']
  have e : ¬8 + i < 8 := by omega
  simp [e, hi]

theorem loByte_mkWord (a b : Byte) : loByte (mkWord a b) = b := by
  apply BitVec.eq_of_getLsbD_eq
  intro i hi
  simp only [mkWord, loByte, BitVec.getLsbD_append, BitVec.getLsbD_extractLsb']
  simp [hi]

theorem Flags.ofByte_toByte (f : Flags) : Flags.ofByte f.toByte = f := by
  obtain ⟨z, n, h, c⟩ := f
  revert z n h c
  decide

theorem sub_one_sub_one (w : Word) : w - 1 - 1 = w - 2 := by bv_omega
theorem add_one_add_one (w : Word) : w + 1 + 1 = w + 2 := by bv_omega

/-- The state a push starts its second write from. -/
theorem push16_second {v : Word} {s u : State}
    (h : busWrite (s.cpu.sp - 1) (hiByte v) (setSp (s.cpu.sp - 1) s) = .ok () u) :
    push16 v s = busWrite (s.cpu.sp - 2) (loByte v) (setSp (s.cpu.sp - 2) u) := by
  have k := busWrite_keeps (s.cpu.sp - 1) (hiByte v) (setSp (s.cpu.sp - 1) s)
  rw [h] at k
  have e : u.cpu.sp = s.cpu.sp - 1 := by
    have c := k.cpu
    dsimp only [Res.state_ok] at c
    rw [c]
    rfl
  have p : (setSp (s.cpu.sp - 1) s).cpu.sp = s.cpu.sp - 1 := rfl
  unfold push16
  rw [h]
  simp only [Res.bind_ok, e, sub_one_sub_one]

theorem push16_first_stop {v : Word} {s t : State} {e : Fault}
    (h : busWrite (s.cpu.sp - 1) (hiByte v) (setSp (s.cpu.sp - 1) s) = .stop e t) : push16 v s = .stop e t := by
  unfold push16
  rw [h]
  rfl

theorem pop16_first_stop {s : State} {e : Fault} (h : peek s.cpu.sp s = .error e) : pop16 s = .stop e s := by
  unfold pop16
  rw [busRead_of_error h]
  rfl

theorem pop16_second_stop {s : State} {lo : ReadBits} {e : Fault} (h : peek s.cpu.sp s = .ok lo)
    (h2 : peek (s.cpu.sp + 1) s = .error e) : pop16 s = .stop e (setSp (s.cpu.sp + 1) (afterRead lo s)) := by
  have p : peek (s.cpu.sp + 1) (setSp (s.cpu.sp + 1) (afterRead lo s)) = .error e := by
    rw [setSp, peek_cpu, peek_afterRead]
    exact h2
  unfold pop16
  rw [busRead_of_peek h]
  simp only [Res.bind_ok, afterRead_cpu]
  show (busRead (s.cpu.sp + 1) (setSp (s.cpu.sp + 1) (afterRead lo s))).bind _ = _
  rw [busRead_of_error p]
  rfl

theorem pop16_ok {s : State} {lo hi : ReadBits} (h : peek s.cpu.sp s = .ok lo) (h2 : peek (s.cpu.sp + 1) s = .ok hi) :
    pop16 s = .ok (mkWord (readValue hi (afterRead lo s)) (readValue lo s))
      (setSp (s.cpu.sp + 2) (afterRead hi (afterRead lo s))) := by
  have p : peek (s.cpu.sp + 1) (setSp (s.cpu.sp + 1) (afterRead lo s)) = .ok hi := by
    rw [setSp, peek_cpu, peek_afterRead]
    exact h2
  unfold pop16
  rw [busRead_of_peek h]
  simp only [Res.bind_ok, afterRead_cpu]
  show (busRead (s.cpu.sp + 1) (setSp (s.cpu.sp + 1) (afterRead lo s))).bind _ = _
  rw [busRead_of_peek p]
  simp only [Res.bind_ok, afterRead_cpu]
  show Res.ok _ (setSp (s.cpu.sp + 1 + 1) _) = _
  rw [add_one_add_one]
  simp only [afterRead, readValue, setSp]
  split <;> split <;> rfl

end Sys2Proof.Machine
end

