-- ==== Sys2Proof/Laws/Step.lean ====
section
/-! SUPPORT. The parts of a step said once: fetching, the timer, the PPU, the interrupt service, and every way a step can
end. -/

namespace Sys2Proof.Machine

/-- A fetch is a chain of bus reads and PC moves. -/
theorem runs_fetch8 (s : State) : Runs s (fetch8 s) :=
  Runs.bind (runs_read _ s) fun _ t _ => Runs.ok _ (Effect.cpu t _)

theorem runs_fetchInstr (s : State) : Runs s (fetchInstr s) := by
  refine Runs.bind (runs_fetch8 s) fun o t _ => ?_
  split
  · exact Runs.ok _ (Effect.refl t)
  · refine Runs.bind (runs_fetch8 t) fun lo u _ => ?_
    split
    · exact Runs.ok _ (Effect.refl u)
    · exact Runs.bind (runs_fetch8 u) fun _ v _ => Runs.ok _ (Effect.refl v)

/-- What every fault-free effect keeps. -/
theorem Effect.keeps {s t : State} (h : Effect s t) :
    t.fault = s.fault ∧ t.cgbMode = s.cgbMode ∧ t.supportMode = s.supportMode ∧ t.inputMask = s.inputMask ∧
      t.frameCarry = s.frameCarry ∧ t.charge = s.charge ∧ t.cart.rom = s.cart.rom ∧
      t.cart.romLength = s.cart.romLength ∧ t.cart.mbc = s.cart.mbc ∧ t.cart.battery = s.cart.battery ∧
      t.apu.soundEnabled = s.apu.soundEnabled := by
  induction h with
  | refl s => exact ⟨rfl, rfl, rfl, rfl, rfl, rfl, rfl, rfl, rfl, rfl, rfl⟩
  | cpu s c => exact ⟨rfl, rfl, rfl, rfl, rfl, rfl, rfl, rfl, rfl, rfl, rfl⟩
  | cost s n => exact ⟨rfl, rfl, rfl, rfl, rfl, rfl, rfl, rfl, rfl, rfl, rfl⟩
  | speed s h => exact ⟨rfl, rfl, rfl, rfl, rfl, rfl, rfl, rfl, rfl, rfl, rfl⟩
  | @read a s t b h =>
    have k := (busRead_state a s).1
    rw [h] at k
    exact ⟨k.fault, k.cgbMode, k.supportMode, k.inputMask, k.frameCarry, k.charge, k.rom, k.romLength, k.mbc, k.battery,
      k.soundEnabled⟩
  | @write a v s t h =>
    have k := busWrite_keeps a v s
    rw [h] at k
    exact ⟨k.fault, k.cgbMode, k.supportMode, k.inputMask, k.frameCarry, k.charge, k.rom, k.romLength, k.mbc, k.battery,
      k.soundEnabled⟩
  | trans _ _ h k =>
    obtain ⟨h1, h2, h3, h4, h5, h6, h7, h8, h9, h10, h11⟩ := h
    obtain ⟨k1, k2, k3, k4, k5, k6, k7, k8, k9, k10, k11⟩ := k
    exact ⟨k1.trans h1, k2.trans h2, k3.trans h3, k4.trans h4, k5.trans h5, k6.trans h6, k7.trans h7, k8.trans h8,
      k9.trans h9, k10.trans h10, k11.trans h11⟩

/-- The timer changes TIMA, its counters and IF, nothing else. -/
theorem timaTicks_eq (n : Nat) (s : State) :
    timaTicks n s = { s with timer := { s.timer with tima := (timaTicks n s).timer.tima }, ifr := (timaTicks n s).ifr } := by
  induction n generalizing s with
  | zero => rfl
  | succ n ih =>
    rw [timaTicks, ih, timaTick]
    split <;> rfl

theorem timaStep_eq (c : Nat) (s : State) :
    timaStep c s = { s with
      timer := { s.timer with
        tima := (timaStep c s).timer.tima, timerCounter := (timaStep c s).timer.timerCounter }
      ifr := (timaStep c s).ifr } := by
  unfold timaStep
  split
  · dsimp only
    rw [timaTicks_eq]
  · rfl

theorem timerStep_eq (c : Nat) (s : State) :
    timerStep c s = { s with
      timer := { divStep c s.timer with
        tima := (timerStep c s).timer.tima, timerCounter := (timerStep c s).timer.timerCounter }
      ifr := (timerStep c s).ifr } := by
  unfold timerStep
  rw [timaStep_eq]

/-- A line end changes LY, IF and `prepared`, nothing else. -/
theorem nextLine_form (s : State) : ∃ (ly : Byte) (f : Frame) (r : BitVec 5),
    nextLine s = { s with ppu := { s.ppu with ly := ly, prepared := f }, ifr := r } ∧
      ly = if s.ppu.ly + 1 = 154 then 0 else s.ppu.ly + 1 := by
  unfold nextLine
  generalize (if s.ppu.ly + 1 = 154 then 0 else s.ppu.ly + 1 : Byte) = ly
  dsimp only
  split
  · exact ⟨ly, _, _, rfl, rfl⟩
  · exact ⟨ly, s.ppu.prepared, s.ifr, rfl, rfl⟩

theorem nextLine_eq (s : State) :
    nextLine s = { s with
      ppu := { s.ppu with ly := (nextLine s).ppu.ly, prepared := (nextLine s).ppu.prepared }
      ifr := (nextLine s).ifr } := by
  obtain ⟨ly, f, r, h, -⟩ := nextLine_form s
  rw [h]

theorem nextLines_eq (n : Nat) (s : State) :
    nextLines n s = { s with
      ppu := { s.ppu with ly := (nextLines n s).ppu.ly, prepared := (nextLines n s).ppu.prepared }
      ifr := (nextLines n s).ifr } := by
  induction n generalizing s with
  | zero => rfl
  | succ n ih => rw [nextLines, ih, nextLine_eq]

theorem nextLine_ly (s : State) (h : s.ppu.ly.toNat ≤ 153) : (nextLine s).ppu.ly.toNat ≤ 153 := by
  have e : (nextLine s).ppu.ly = if s.ppu.ly + 1 = 154 then 0 else s.ppu.ly + 1 := by
    obtain ⟨ly, f, r, h1, h2⟩ := nextLine_form s
    rw [h1, ← h2]
  rw [e]
  split
  · decide
  · next hn =>
    have : s.ppu.ly.toNat ≠ 153 := by
      intro h3
      apply hn
      apply BitVec.eq_of_toNat_eq
      simp [BitVec.toNat_add, h3]
    simp [BitVec.toNat_add]
    omega

theorem nextLines_ly (n : Nat) (s : State) (h : s.ppu.ly.toNat ≤ 153) : (nextLines n s).ppu.ly.toNat ≤ 153 := by
  induction n generalizing s with
  | zero => exact h
  | succ n ih => exact ih _ (nextLine_ly s h)

theorem advanceDot_eq (spd c : Nat) (s : State) :
    advanceDot spd c s = { s with
      ppu := { s.ppu with
        ly := (advanceDot spd c s).ppu.ly, prepared := (advanceDot spd c s).ppu.prepared
        dot := (s.ppu.dot + c) % (Config.lineCycles * spd) }
      ifr := (advanceDot spd c s).ifr } := by
  unfold advanceDot
  dsimp only
  rw [nextLines_eq]

/-- What the PPU's step leaves alone, fault or not. -/
structure PpuKeeps (s t : State) : Prop where
  state : t = { s with ppu := t.ppu, hdma := t.hdma, ifr := t.ifr, draws := t.draws }
  ppu : t.ppu = { s.ppu with
    ly := t.ppu.ly, dot := t.ppu.dot, mode := t.ppu.mode, prevCoin := t.ppu.prevCoin, vram := t.ppu.vram
    screen := t.ppu.screen, prepared := t.ppu.prepared, bgIndex := t.ppu.bgIndex, bgAttrPrio := t.ppu.bgAttrPrio }

theorem PpuKeeps.refl (s : State) : PpuKeeps s s := ⟨rfl, rfl⟩

theorem PpuKeeps.trans {s t u : State} (h : PpuKeeps s t) (k : PpuKeeps t u) : PpuKeeps s u := by
  obtain ⟨h1, h2⟩ := h
  obtain ⟨k1, k2⟩ := k
  constructor
  · rw [k1]; rw [h1]
  · rw [k2]; rw [h2]

theorem copyBytes_ppuKeeps (n : Nat) (s : State) : PpuKeeps s (copyBytes n s).state := by
  induction n generalizing s with
  | zero => exact PpuKeeps.refl s
  | succ n ih =>
    rw [copyBytes, copyByte]
    cases hp : peek s.hdma.src s with
    | error e => rw [busRead_of_error hp]; exact PpuKeeps.refl s
    | ok r =>
      rw [busRead_of_peek hp]
      refine PpuKeeps.trans ?_ (ih _)
      constructor
      · rw [afterRead_eq]
      · simp

theorem hdmaHblankBlock_ppuKeeps (s : State) : PpuKeeps s (hdmaHblankBlock s).state := by
  unfold hdmaHblankBlock
  split
  · have h := copyBytes_ppuKeeps 16 s
    revert h
    cases copyBytes 16 s with
    | ok a t => exact fun h => h.trans ⟨rfl, rfl⟩
    | stop e t => exact id
  · exact PpuKeeps.refl s

theorem renderLine_eq (cgb : Bool) (ly : Nat) (p : Ppu) :
    renderLine cgb ly p = { p with
      bgIndex := (renderLine cgb ly p).bgIndex, bgAttrPrio := (renderLine cgb ly p).bgAttrPrio
      screen := (renderLine cgb ly p).screen } := rfl

theorem enterMode_ppuKeeps (m : BitVec 2) (s : State) : PpuKeeps s (enterMode m s).state := by
  have h0 : PpuKeeps s (if m = 3 then { s with ppu := renderLine s.cgbMode s.ppu.ly.toNat s.ppu } else s) := by
    split
    · exact ⟨rfl, rfl⟩
    · exact PpuKeeps.refl s
  unfold enterMode
  dsimp only
  revert h0
  generalize (if m = 3 then { s with ppu := renderLine s.cgbMode s.ppu.ly.toNat s.ppu } else s) = t
  intro h0
  refine h0.trans ?_
  have h1 : PpuKeeps t (if m = 0 then hdmaHblankBlock t else .ok () t).state := by
    split
    · exact hdmaHblankBlock_ppuKeeps t
    · exact PpuKeeps.refl t
  revert h1
  cases (if m = 0 then hdmaHblankBlock t else .ok () t) with
  | stop e u => exact id
  | ok a u =>
    intro h1
    refine h1.trans ?_
    show PpuKeeps u _
    dsimp only [Res.then_ok, Res.state_ok]
    split <;> exact ⟨rfl, rfl⟩

theorem compareLyc_ppuKeeps (s : State) : PpuKeeps s (compareLyc s) := by
  unfold compareLyc
  dsimp only
  split <;> exact ⟨rfl, rfl⟩

theorem ppuStep_keeps (spd c : Nat) (s : State) : PpuKeeps s (ppuStep spd c s).state := by
  unfold ppuStep
  split
  · have h0 : PpuKeeps s (advanceDot spd c s) := by
      rw [advanceDot_eq]
      exact ⟨rfl, rfl⟩
    dsimp only
    revert h0
    generalize advanceDot spd c s = t
    intro h0
    refine h0.trans ?_
    have h1 : PpuKeeps t (if modeAt spd t.ppu.ly t.ppu.dot ≠ t.ppu.mode
        then enterMode (modeAt spd t.ppu.ly t.ppu.dot) t else .ok () t).state := by
      split
      · exact enterMode_ppuKeeps _ t
      · exact PpuKeeps.refl t
    revert h1
    cases (if modeAt spd t.ppu.ly t.ppu.dot ≠ t.ppu.mode
        then enterMode (modeAt spd t.ppu.ly t.ppu.dot) t else .ok () t) with
    | stop e u => exact id
    | ok a u => exact fun h1 => h1.trans (compareLyc_ppuKeeps u)
  · exact ⟨rfl, rfl⟩

/-- Drawing does not look at LY, the dot counter or the published frame. -/
theorem firstOpaque_counters (cgb : Bool) (p : Ppu) (y : Byte) (d : Nat) (f : Frame) (x ly : Nat) (l : List Sprite) :
    firstOpaque cgb { p with ly := y, dot := d, prepared := f } x ly l = firstOpaque cgb p x ly l := by
  induction l with
  | nil => rfl
  | cons s t ih =>
    rw [firstOpaque, ih]
    rfl

theorem composePixel_counters (cgb : Bool) (p : Ppu) (y : Byte) (d : Nat) (f : Frame) (ly : Nat) (l : List Sprite) (x : Nat) :
    composePixel cgb { p with ly := y, dot := d, prepared := f } ly l x = composePixel cgb p ly l x := by
  unfold composePixel
  rw [firstOpaque_counters]
  rfl

/-- Every way a step can end in a next state. -/
inductive StepEnds (s t : State) : Prop
  | idle (hh : s.cpu.halted = true)
      (h : (finishStep (spdOf s) (spend Config.haltStepCost (beginStep s))).outcome = .next t)
  | fetchFault (hh : s.cpu.halted = false) (r : Fault) (u : State) (h : fetchInstr (beginStep s) = .stop r u)
      (ht : t = recordFault r u)
  | execFault (hh : s.cpu.halted = false) (i : Instr) (u : State) (h : fetchInstr (beginStep s) = .ok i u)
      (he : exec i u = .next t) (hf : t.fault ≠ none)
  | ran (hh : s.cpu.halted = false) (i : Instr) (u v : State) (h : fetchInstr (beginStep s) = .ok i u)
      (he : exec i u = .next v) (hf : v.fault = none) (ht : (finishStep (spdOf s) v).outcome = .next t)

theorem step_ends {s t : State} (h : step s = .next t) : s.fault = none ∧ StepEnds s t := by
  unfold step runStep at h
  cases hf : s.fault with
  | some r => rw [hf] at h; cases h
  | none =>
    rw [hf] at h
    refine ⟨rfl, ?_⟩
    dsimp only at h
    cases hh : s.cpu.halted with
    | true => rw [if_pos hh] at h; exact .idle hh h
    | false =>
      rw [if_neg (by simp [hh])] at h
      cases hi : fetchInstr (beginStep s) with
      | stop r u => rw [hi] at h; cases h; exact .fetchFault hh r u hi rfl
      | ok i u =>
        rw [hi] at h
        dsimp only at h
        cases he : exec i u with
        | fault r => rw [he] at h; cases h
        | refused r => rw [he] at h; cases h
        | next v =>
          rw [he] at h
          dsimp only [afterExec] at h
          cases hv : v.fault with
          | none => rw [hv] at h; exact .ran hh i u v hi he hv h
          | some r =>
            rw [hv] at h
            cases h
            exact .execFault hh i u hi he (by rw [hv]; simp)

end Sys2Proof.Machine
end

