-- ==== Sys2Proof/Tests/Slice0.lean ====
section
/-! SUPPORT. The author's tests: the well-formedness check, words written out from the encoding tables (30 R174, R175),
one step of an instruction on a small state (95_test_vectors.md), and for every obligation with hypotheses a state and
operands that meet them. -/

open Sys2Proof Sys2Proof.Machine Sys2Proof.Claims

namespace Sys2Proof.Tests

/-! ## Well-formedness -/

/-- The one ill-formed term: the prefix as an instruction of its own (30 R175, R178). -/
theorem test_wf_refuses_prefix : WellFormed (.prefix_cb 0x00) = false := by decide
theorem test_wf_accepts_stop : WellFormed (.stop 0xFF) = true := by decide

/-! ## Decoding: bits written out from 30 R171 to R175: xx yyy zzz, or xx pp q zzz, or xx 1cc zzz -/

theorem test_decode_loads :
    decode [0b01111000] = .ok (.ld_a_b, []) ∧ decode [0b01110001] = .ok (.ld_atHL_c, []) ∧
    decode [0b00110110, 0x7F] = .ok (.ld_atHL_n8 0x7F, []) ∧ decode [0b00100001, 0x34, 0x12] = .ok (.ld_hl_n16 0x1234, []) ∧
    decode [0b00001000, 0x00, 0xC0] = .ok (.ld_atA16_sp 0xC000, []) ∧ decode [0b11110000, 0x44] = .ok (.ldh_a_atA8 0x44, []) ∧
    decode [0b00101010] = .ok (.ld_a_atHLI, []) ∧ decode [0b11111000, 0x80] = .ok (.ld_hl_spE8 0x80, []) ∧
    decode [0b11000101] = .ok (.push_bc, []) ∧ decode [0b11110001] = .ok (.pop_af, []) := by decide
theorem test_decode_alu8 :
    decode [0b10000000] = .ok (.add_a_b, []) ∧ decode [0b10011110] = .ok (.sbc_a_atHL, []) ∧
    decode [0b11101110, 0xA5] = .ok (.xor_n8 0xA5, []) ∧ decode [0b10111111] = .ok (.cp_a, []) ∧
    decode [0b00111100] = .ok (.inc_a, []) ∧ decode [0b00110101] = .ok (.dec_atHL, []) ∧
    decode [0b00100111] = .ok (.daa, []) ∧ decode [0b00111111] = .ok (.ccf, []) := by decide
theorem test_decode_alu16 :
    decode [0b00110011] = .ok (.inc_sp, []) ∧ decode [0b00001011] = .ok (.dec_bc, []) ∧
    decode [0b00011001] = .ok (.add_hl_de, []) ∧ decode [0b11101000, 0xFE] = .ok (.add_sp_e8 0xFE, []) := by decide
theorem test_decode_rotates :
    decode [0b00000111] = .ok (.rlca, []) ∧ decode [0b00011111] = .ok (.rra, []) ∧
    decode [0xCB, 0b00000000] = .ok (.rlc_b, []) ∧ decode [0xCB, 0b00101110] = .ok (.sra_atHL, []) ∧
    decode [0xCB, 0b00110111] = .ok (.swap_a, []) ∧ decode [0xCB, 0b00111001] = .ok (.srl_c, []) := by decide
theorem test_decode_bits :
    decode [0xCB, 0b01111100] = .ok (.bit_7_h, []) ∧ decode [0xCB, 0b10000110] = .ok (.res_0_atHL, []) ∧
    decode [0xCB, 0b11111000] = .ok (.set_7_b, []) := by decide
theorem test_decode_control :
    decode [0b11000010, 0x00, 0x30] = .ok (.jp_nz_a16 0x3000, []) ∧ decode [0b00111000, 0x10] = .ok (.jr_c_e8 0x10, []) ∧
    decode [0b11010100, 0x00, 0x20] = .ok (.call_nc_a16 0x2000, []) ∧ decode [0b11001000] = .ok (.ret_z, []) ∧
    decode [0b11101001] = .ok (.jp_hl, []) ∧ decode [0b11111111] = .ok (.rst_38, []) ∧
    decode [0b11011001] = .ok (.reti, []) := by decide
theorem test_decode_system :
    decode [0b00000000] = .ok (.nop, []) ∧ decode [0b01110110] = .ok (.halt, []) ∧
    decode [0b00010000, 0x00] = .ok (.stop 0x00, []) ∧ decode [0b11110011] = .ok (.di, []) ∧
    decode [0b11111011] = .ok (.ei, []) ∧ decode [0b11101101] = .ok (.illegal_ed, []) := by decide
theorem test_decode_rejects_truncated :
    decode [] = .error .truncated ∧ decode [0xCD, 0x00] = .error .truncated ∧ decode [0xCB] = .error .truncated := by
  decide

/-! ## One instruction on a small state: the vectors of 95_test_vectors.md section 2 -/

/-- The state of reset with A and F. -/
def af (a f : Byte) : State := { State.reset with cpu := { State.reset.cpu with a := a, f := Flags.ofByte f } }

/-- Put HL into a state. -/
def withHL (hl : Word) (s : State) : State := setHL hl s

/-- Put SP into a state. -/
def withSP (sp : Word) (s : State) : State := { s with cpu.sp := sp }

/-- Put bytes at 0xC000 on. -/
def withRam (bs : List Byte) (s : State) : State := { s with wram := Memory.ofBytes bs }

/-- What an observation `f` sees after the instruction, with its cost. -/
def seen {α : Type} (i : Instr) (s : State) (f : State → α) : Option (α × Nat) :=
  match exec i s with
  | .next t => if t.fault = none then some (f t, t.cost) else none
  | _ => none

/-- A and F. -/
def seeAF (s : State) : Byte × Byte := (s.cpu.a, s.cpu.f.toByte)

/-- The byte at an address, where all of it is state. -/
def seeByte (a : Word) (s : State) : Option Byte :=
  match peek a s with
  | .ok r => if r.drawn = 0 then some r.value else none
  | .error _ => none

theorem test_ld_b_a : seen .ld_b_a (af 0x5C 0xB0) (fun t => (t.cpu.b, t.cpu.f.toByte)) = some ((0x5C, 0xB0), 4) := by
  decide
theorem test_ld_hli_a :
    seen .ld_atHLI_a (withHL 0xC0FF (af 0x11 0xB0)) (fun t => (seeByte 0xC0FF t, getHL t)) =
      some ((some 0x11, 0xC100), 8) := by decide
theorem test_ld_a_hld :
    seen .ld_a_atHLD (withHL 0xC001 (withRam [0x00, 0x77] (af 0x00 0x00))) (fun t => (t.cpu.a, getHL t)) =
      some ((0x77, 0xC000), 8) := by decide
theorem test_ld_a16_sp :
    seen (.ld_atA16_sp 0xC000) (withSP 0xFFF8 State.reset) (fun t => (seeByte 0xC000 t, seeByte 0xC001 t)) =
      some ((some 0xF8, some 0xFF), 20) := by decide
theorem test_push_af :
    seen .push_af (af 0x12 0xB0) (fun t => (seeByte 0xFFFD t, seeByte 0xFFFC t, t.cpu.sp)) =
      some ((some 0x12, some 0xB0, 0xFFFC), 16) := by decide
theorem test_pop_af_low_nibble :
    seen .pop_af (withSP 0xC000 (withRam [0xFF, 0x00] State.reset)) (fun t => (seeAF t, t.cpu.sp)) =
      some (((0x00, 0xF0), 0xC002), 12) := by decide
theorem test_ld_hl_sp_e8 :
    seen (.ld_hl_spE8 0x80) (withSP 0x0080 State.reset) (fun t => (getHL t, t.cpu.f.toByte)) =
      some ((0x0000, 0x10), 12) := by decide
theorem test_ld_hl_sp_e8_nibble :
    seen (.ld_hl_spE8 0x01) (withSP 0x000F State.reset) (fun t => (getHL t, t.cpu.f.toByte)) =
      some ((0x0010, 0x20), 12) := by decide
theorem test_ldh_a8_a : seen (.ldh_atA8_a 0x80) (af 0x99 0x00) (seeByte 0xFF80) = some (some 0x99, 12) := by decide
theorem test_ld_a_hl_echo :
    seen .ld_a_atHL (withHL 0xE000 (withRam [0x3C] State.reset)) (fun t => t.cpu.a) = some (0x3C, 8) := by decide
/-- Disabled cartridge RAM reads as a draw: the read takes one draw (20 R154). -/
theorem test_ld_a_hl_disabled_ram :
    seen .ld_a_atHL (withHL 0xA000 State.reset) (fun t => t.draws) = some (1, 8) := by decide

theorem test_add_half : seen (.add_a_n8 0x01) (af 0x0F 0x00) seeAF = some ((0x10, 0x20), 8) := by decide
theorem test_add_both : seen (.add_a_n8 0x01) (af 0xFF 0x00) seeAF = some ((0x00, 0xB0), 8) := by decide
theorem test_adc_half : seen (.adc_a_n8 0x00) (af 0x0F 0x10) seeAF = some ((0x10, 0x20), 8) := by decide
theorem test_adc_ff : seen (.adc_a_n8 0xFF) (af 0xFF 0x10) seeAF = some ((0xFF, 0x30), 8) := by decide
theorem test_sub_half : seen (.sub_n8 0x01) (af 0x10 0x00) seeAF = some ((0x0F, 0x60), 8) := by decide
theorem test_sub_borrow : seen (.sub_n8 0x01) (af 0x00 0x00) seeAF = some ((0xFF, 0x70), 8) := by decide
theorem test_sbc_zero : seen (.sbc_a_n8 0x0F) (af 0x10 0x10) seeAF = some ((0x00, 0xE0), 8) := by decide
theorem test_sbc_ff : seen (.sbc_a_n8 0xFF) (af 0x00 0x10) seeAF = some ((0x00, 0xF0), 8) := by decide
theorem test_and : seen (.and_n8 0x0F) (af 0xF0 0x10) seeAF = some ((0x00, 0xA0), 8) := by decide
theorem test_xor_hl :
    seen .xor_atHL (withHL 0xC000 (withRam [0x5A] (af 0x5A 0x70))) seeAF = some ((0x00, 0x80), 8) := by decide
theorem test_or : seen (.or_n8 0x00) (af 0x00 0x70) seeAF = some ((0x00, 0x80), 8) := by decide
theorem test_cp_equal : seen (.cp_n8 0x42) (af 0x42 0x00) seeAF = some ((0x42, 0xC0), 8) := by decide
theorem test_cp_less : seen (.cp_n8 0x43) (af 0x42 0x00) seeAF = some ((0x42, 0x70), 8) := by decide
theorem test_inc_a : seen .inc_a (af 0x0F 0x10) seeAF = some ((0x10, 0x30), 4) := by decide
theorem test_dec_a : seen .dec_a (af 0x10 0x00) seeAF = some ((0x0F, 0x60), 4) := by decide
theorem test_inc_hl :
    seen .inc_atHL (withHL 0xC000 (withRam [0xFF] (af 0x00 0x00))) (fun t => (seeByte 0xC000 t, t.cpu.f.toByte)) =
      some ((some 0x00, 0xA0), 12) := by decide
theorem test_daa_add : seen .daa (af 0x9A 0x00) seeAF = some ((0x00, 0x90), 4) := by decide
theorem test_daa_sub : seen .daa (af 0x9A 0x70) seeAF = some ((0x34, 0x50), 4) := by decide
theorem test_cpl : seen .cpl (af 0x00 0x90) seeAF = some ((0xFF, 0xF0), 4) := by decide
theorem test_scf : seen .scf (af 0x00 0x70) seeAF = some ((0x00, 0x10), 4) := by decide
theorem test_ccf : seen .ccf (af 0x00 0x10) seeAF = some ((0x00, 0x00), 4) := by decide

theorem test_add_hl_bc :
    seen .add_hl_bc (setRr .bc 0x0001 (withHL 0x0FFF (af 0x00 0x80))) (fun t => (getHL t, t.cpu.f.toByte)) =
      some ((0x1000, 0xA0), 8) := by decide
theorem test_add_hl_sp :
    seen .add_hl_sp (withSP 0x8000 (withHL 0x8000 (af 0x00 0x00))) (fun t => (getHL t, t.cpu.f.toByte)) =
      some ((0x0000, 0x10), 8) := by decide
theorem test_inc_sp :
    seen .inc_sp (withSP 0xFFFF (af 0x00 0xF0)) (fun t => (t.cpu.sp, t.cpu.f.toByte)) = some ((0x0000, 0xF0), 8) := by
  decide
theorem test_dec_bc :
    seen .dec_bc (setRr .bc 0x0000 (af 0x00 0x00)) (fun t => (getBC t, t.cpu.f.toByte)) = some ((0xFFFF, 0x00), 8) := by
  decide
theorem test_add_sp_negative :
    seen (.add_sp_e8 0xFE) (af 0x00 0xC0) (fun t => (t.cpu.sp, t.cpu.f.toByte)) = some ((0xFFFC, 0x30), 16) := by decide
theorem test_add_sp_from_zero :
    seen (.add_sp_e8 0xFF) (withSP 0x0000 (af 0x00 0x00)) (fun t => (t.cpu.sp, t.cpu.f.toByte)) =
      some ((0xFFFF, 0x00), 16) := by decide

theorem test_rlca_zero : seen .rlca (af 0x00 0xF0) seeAF = some ((0x00, 0x00), 4) := by decide
theorem test_rla : seen .rla (af 0x80 0x00) seeAF = some ((0x00, 0x10), 4) := by decide
theorem test_rra : seen .rra (af 0x01 0x10) seeAF = some ((0x80, 0x10), 4) := by decide
theorem test_rlc_b_zero :
    seen .rlc_b (setReg .b 0x00 (af 0x00 0x10)) (fun t => (t.cpu.b, t.cpu.f.toByte)) = some ((0x00, 0x80), 8) := by decide
theorem test_rl_hl :
    seen .rl_atHL (withHL 0xC000 (withRam [0x80] (af 0x00 0x10))) (fun t => (seeByte 0xC000 t, t.cpu.f.toByte)) =
      some ((some 0x01, 0x10), 16) := by decide
theorem test_rr_c :
    seen .rr_c (setReg .c 0x01 (af 0x00 0x00)) (fun t => (t.cpu.c, t.cpu.f.toByte)) = some ((0x00, 0x90), 8) := by decide
theorem test_sla_a : seen .sla_a (af 0xFF 0x00) seeAF = some ((0xFE, 0x10), 8) := by decide
theorem test_sra_b :
    seen .sra_b (setReg .b 0x01 (af 0x00 0x00)) (fun t => (t.cpu.b, t.cpu.f.toByte)) = some ((0x00, 0x90), 8) := by decide
theorem test_srl_a : seen .srl_a (af 0x80 0x10) seeAF = some ((0x40, 0x00), 8) := by decide
theorem test_swap_b_zero :
    seen .swap_b (setReg .b 0x00 (af 0x00 0x70)) (fun t => (t.cpu.b, t.cpu.f.toByte)) = some ((0x00, 0x80), 8) := by
  decide
theorem test_bit_hl :
    seen .bit_0_atHL (withHL 0xC000 (withRam [0xFE] (af 0x00 0x10))) (fun t => (seeByte 0xC000 t, t.cpu.f.toByte)) =
      some ((some 0xFE, 0xB0), 12) := by decide
theorem test_bit_3_a : seen .bit_3_a (af 0x08 0xD0) seeAF = some ((0x08, 0x30), 8) := by decide
theorem test_res_hl :
    seen .res_0_atHL (withHL 0xC000 (withRam [0xFF] (af 0x00 0x00))) (fun t => (seeByte 0xC000 t, t.cpu.f.toByte)) =
      some ((some 0xFE, 0x00), 16) := by decide
theorem test_set_7_b :
    seen .set_7_b (setReg .b 0x00 (af 0x00 0x50)) (fun t => (t.cpu.b, t.cpu.f.toByte)) = some ((0x80, 0x50), 8) := by
  decide

/-- Put PC past an instruction fetched at 0x0100. -/
def past (n : Word) (s : State) : State := { s with cpu.pc := 0x0100 + n }

theorem test_jr_negative : seen (.jr_e8 0x80) (past 2 State.reset) (fun t => t.cpu.pc) = some (0x0082, 12) := by decide
theorem test_jr_positive : seen (.jr_e8 0x7F) (past 2 State.reset) (fun t => t.cpu.pc) = some (0x0181, 12) := by decide
theorem test_jr_not_taken :
    seen (.jr_c_e8 0x10) (past 2 (af 0x00 0x00)) (fun t => t.cpu.pc) = some (0x0102, 8) := by decide
theorem test_jp_not_taken :
    seen (.jp_nz_a16 0x3000) (past 3 (af 0x00 0x80)) (fun t => t.cpu.pc) = some (0x0103, 12) := by decide
theorem test_jp_hl : seen .jp_hl (withHL 0xC000 State.reset) (fun t => t.cpu.pc) = some (0xC000, 4) := by decide
theorem test_call_taken :
    seen (.call_nc_a16 0x2000) (past 3 (af 0x00 0x00))
      (fun t => (t.cpu.pc, t.cpu.sp, seeByte 0xFFFD t, seeByte 0xFFFC t)) =
      some ((0x2000, 0xFFFC, some 0x01, some 0x03), 24) := by decide
theorem test_ret_taken :
    seen .ret_z (withSP 0xC000 (withRam [0x34, 0x12] (af 0x00 0x80))) (fun t => (t.cpu.pc, t.cpu.sp)) =
      some ((0x1234, 0xC002), 20) := by decide
theorem test_rst :
    seen .rst_38 (past 1 State.reset) (fun t => (t.cpu.pc, seeByte 0xFFFD t, seeByte 0xFFFC t)) =
      some ((0x0038, some 0x01, some 0x01), 16) := by decide

/-! ## One step -/

/-- What an observation sees after a step, with what the step returned. -/
def stepSeen {α : Type} (s : State) (f : State → α) : Option (α × Nat) :=
  match step s with
  | .next t => some (f t, t.charge)
  | _ => none

/-- The state of reset with bytes at 0x0100. -/
def code (bs : List Byte) : State := { State.reset with cart.rom := Memory.ofBytesFrom 0x100 bs }

theorem test_step_ei :
    stepSeen { code [0xFB, 0x00] with ie := 0x04, ifr := 0x04 } (fun t => (t.cpu.ime, t.cpu.pc, t.ifr)) =
      some ((true, 0x0101, 0x04), 4) := by decide
theorem test_step_dispatch_priority :
    stepSeen { code [0x00] with ie := 0x1F, ifr := 0x05, cpu.ime := true }
      (fun t => (t.cpu.pc, t.ifr, t.ppu.dot, seeByte 0xFFFC t)) =
      some ((0x0040, 0x04, 4, some 0x01), 24) := by decide
theorem test_step_reti_redispatch :
    stepSeen { withSP 0xC000 (withRam [0x00, 0x02] (code [0xD9])) with ie := 0x01, ifr := 0x01 }
      (fun t => (t.cpu.pc, t.cpu.ime, t.cpu.sp, seeByte 0xC001 t)) =
      some ((0x0040, false, 0xC000, some 0x02), 36) := by decide
theorem test_step_halt :
    stepSeen { code [0x76] with ie := 0x04, ifr := 0x00 } (fun t => (t.cpu.halted, t.cpu.pc)) =
      some ((true, 0x0101), 4) := by decide
theorem test_step_illegal :
    stepSeen (code [0xD3]) (fun t => (t.fault, t.cpu.pc, t.ppu.dot)) =
      some ((some (.illegalOpcode 0xD3), 0x0101, 0), 0) := by decide
theorem test_step_stop_dmg :
    stepSeen (code [0x10, 0x00]) (fun t => (t.fault, t.cpu.pc)) = some ((some .stopUnmodelled, 0x0102), 0) := by decide
theorem test_step_stop_armed :
    stepSeen { code [0x10, 0x00] with cgbMode := true, speedArmed := true } (fun t => (t.doubleSpeed, t.speedArmed)) =
      some ((true, false), 4) := by decide
theorem test_step_call_ticks_twice :
    stepSeen { code [0xCD, 0x00, 0x20] with timer := { State.reset.timer with tac := 5, tima := 0x10, timerCounter := 8 } }
      (fun t => (t.timer.tima, t.timer.timerCounter)) = some ((0x12, 0), 24) := by decide
theorem test_step_tima_overflow :
    stepSeen { code [0x00] with
        timer := { State.reset.timer with tac := 5, tima := 0xFF, tma := 0xAB, timerCounter := 12 }, ifr := 0 }
      (fun t => (t.timer.tima, t.timer.timerCounter, t.ifr)) = some ((0xAB, 0, 0x04), 4) := by decide
theorem test_step_div_write :
    stepSeen { code [0xE0, 0x04] with timer := { State.reset.timer with div := 0x33, divAcc := 100 } }
      (fun t => (t.timer.div, t.timer.divAcc)) = some ((0x00, 12), 12) := by decide
theorem test_step_first_vblank :
    stepSeen { code [0x00] with ppu := { State.reset.ppu with ly := 143, dot := 452, mode := 0 }, ifr := 0 }
      (fun t => (t.ppu.ly, t.ppu.dot, t.ppu.mode, t.ifr)) = some ((144, 0, 1, 0x01), 4) := by decide
theorem test_step_stat_mode0 :
    stepSeen { code [0x00] with ppu := { State.reset.ppu with dot := 248, mode := 3, statSel := 1 }, ifr := 0 }
      (fun t => (t.ppu.dot, t.ppu.mode, t.ifr)) = some ((252, 0, 0x02), 4) := by decide
theorem test_step_lcd_off :
    stepSeen { code [0xE0, 0x40] with
        cpu := { State.reset.cpu with a := 0x11 }, ppu := { State.reset.ppu with ly := 50, dot := 7, mode := 2 } }
      (fun t => (t.ppu.ly, t.ppu.dot, t.ppu.mode)) = some ((0, 0, 0), 12) := by decide

/-- A program placed by its table word runs at the next step: LD BC,0x1234 (30 R174). -/
theorem test_withFetchWord :
    stepSeen (State.reset.withFetchWord 24 0x123401) (fun t => getBC t) = some (0x1234, 12) := by decide

/-! ## The bus, the controllers, the host -/

/-- A state with a controller and its RAM enabled. -/
def withMbc (m : Mbc) : State := { State.reset with cart := { State.reset.cart with mbc := m, ramEnabled := true } }

/-- The state after a write that completes. -/
def written (a : Word) (v : Byte) (s : State) : State :=
  match busWrite a v s with
  | .ok _ t => t
  | .stop _ t => t

theorem test_echo_write : seeByte 0xD000 (written 0xF000 0x5A State.reset) = some 0x5A := by decide
theorem test_unmapped_read : peek 0xFEA0 State.reset = .ok ⟨0x00, 0xFF⟩ := by decide
theorem test_mbc1_zero_skip :
    (written 0x2000 0x00 { withMbc .mbc1 with cart.romBank := 0x21 }).cart.romBank = 0x21 ∧
    (written 0x2000 0x00 { withMbc .mbc1 with cart.romBank := 0x41 }).cart.romBank = 0x41 := by decide
theorem test_mbc1_ram_mode :
    ((written 0x6000 0x01 { withMbc .mbc1 with cart.romBank := 0x21 }).cart.romBank,
      (written 0x6000 0x01 (withMbc .mbc1)).cart.mbc1RamMode) = (0x01, true) := by decide
theorem test_mbc2_bit8 :
    (written 0x2000 0x05 (withMbc .mbc2)).cart.romBank = 0x01 ∧
    (written 0x2100 0x15 (withMbc .mbc2)).cart.romBank = 0x05 := by decide
theorem test_mbc2_repeats : peek 0xA200 (written 0xA000 0xFF (withMbc .mbc2)) = .ok ⟨0x0F, 0xF0⟩ := by decide
theorem test_mbc3_enable :
    (written 0x0000 0x08 (withMbc .mbc3)).cart.ramEnabled = true ∧
    (written 0x0000 0x04 (withMbc .mbc3)).cart.ramEnabled = false := by decide
theorem test_mbc3_bad_rtc :
    peek 0xA000 (written 0x4000 0x10 (withMbc .mbc3)) = .error (.rtcIndexOutOfRange 0x10) := by decide
theorem test_mbc5_bank_zero : (written 0x2000 0x00 (withMbc .mbc5)).cart.romBank = 0x00 := by decide
theorem test_rom_past_image :
    peek 0x4000 { State.reset with cart.mbc := .mbc1, cart.romBank := 0x04, cart.romLength := 0x10000 } =
      .error (.romOutOfRange 0x10000) := by decide
theorem test_p1 :
    peek 0xFF00 { State.reset with inputMask := 0xFE, p1 := 1 } = .ok ⟨0x1E, 0xC0⟩ ∧
    peek 0xFF00 { State.reset with inputMask := 0xFE, p1 := 2 } = .ok ⟨0x2F, 0xC0⟩ ∧
    peek 0xFF00 { State.reset with inputMask := 0x00, p1 := 3 } = .ok ⟨0x3F, 0xC0⟩ := by decide
theorem test_press_again :
    (pressButton .a { State.reset with inputMask := 0xFE, ifr := 0 }).inputMask = 0xFE ∧
    (pressButton .a { State.reset with inputMask := 0xFE, ifr := 0 }).ifr = 0x10 := by decide
theorem test_header :
    [0x08, 0x0A, 0x14, 0x1F].map mbcOfHeader = [.romOnly, .mbc3, .mbc1, .mbc1] ∧
    [0x80, 0xC0, 0x00, 0x81].map supportOfHeader = [.dmgCgbCapable, .cgbOnly, .dmgOnly, .dmgOnly] := by decide

/-! ## The PPU and the APU -/

theorem test_signed_tile : tileBase 0x00 0x80 = 0x0800 ∧ tileBase 0x10 0x80 = 0x0800 ∧ tileBase 0x00 0x00 = 0x1000 := by
  decide
theorem test_shade : shadeOf 0xE4 2 = 2 := by decide
theorem test_lfsr : lfsrClock false 0x7FFF = 0x3FFF ∧ lfsrClock true 0x0001 = 0x4040 := by decide
theorem test_length : (Apu.setChan { State.reset.apu with regs := [] } .one State.reset.apu.ch1).lengthSamples 48000 .one
    = 12000 := by decide
theorem test_length_three : { State.reset.apu with regs := [] }.lengthSamples 48000 .three = 48000 := by decide
theorem test_envelope :
    ({ State.reset.apu with regs := [(0x12, 0xF3)] }.envelopeReset 48000 .one State.reset.apu.ch1).envSamplesPerStep = 2250 ∧
    ({ State.reset.apu with regs := [(0x12, 0xF3)] }.envelopeReset 48000 .one State.reset.apu.ch1).envTarget = 15 := by
  decide
theorem test_sweep_overflow :
    (Channel.advanceSweep { State.reset.apu.ch1 with
      on := true, shadow := 0x700, sweepLen := 375, sweepSteps := 1, sweepCount := 374 }).on = false := by decide

/-! ## Witnesses: for each obligation with hypotheses, states and operands that meet them, clause by clause -/

/-- A CGB state. -/
def cgb : State := { State.reset with cgbMode := true, supportMode := .cgbOnly }

/-- A state whose ROM ends where it fetches. -/
def shortRom : State := { State.reset with cart.romLength := 0x0100 }

theorem witness_DecodeEncodeRoundTrip : WellFormed (.ld_bc_n16 0xFFFF) = true ∧ WellFormed (.set_7_a) = true := by decide
theorem witness_DecodedBytesAreTheEncoding :
    decode [0xCB, 0xFF, 0x00] = .ok (.set_7_a, [0x00]) ∧ decode [0x10, 0xFF] = .ok (.stop 0xFF, []) := by decide
theorem witness_LengthFromFirstByte :
    instrLength 0xFA ≤ [0xFF, 0xFF].length + 1 ∧ [0xFF].length + 1 < instrLength (0xFA : Byte) := by decide
theorem witness_PrefixCbRunsThePair :
    (withHL 0xC000 State.reset).fault = none ∧ readable 0xC000 (withHL 0xC000 State.reset) = true ∧
    ∀ v, writable 0xC000 v (withHL 0xC000 State.reset) = true := ⟨rfl, rfl, fun _ => rfl⟩

theorem witness_StepRunsDecodedInstruction_decode :
    State.reset.fault = none ∧ State.reset.cpu.halted = false ∧ decode [0x00] = .ok (.nop, []) ∧
    ∀ k, k < 1 → peek (State.reset.cpu.pc + BitVec.ofNat 16 k) State.reset = .ok (.stored ([0x00].getD k 0)) :=
  ⟨rfl, rfl, by decide, fun k hk => by interval_cases k; rfl⟩
theorem witness_StepRunsDecodedInstruction_fetch :
    ∃ t, fetchInstr { code [0xCD, 0x34, 0x12] with cost := 0, charge := 0 } = .ok (.call_a16 0x1234) t := ⟨_, rfl⟩
theorem witness_StepRunsDecodedInstruction_fetchFault :
    ∃ t, fetchInstr { shortRom with cost := 0, charge := 0 } = .stop (.romOutOfRange 0x0100) t := ⟨_, rfl⟩
theorem witness_StepRunsDecodedInstruction_after :
    ∃ u x w, State.reset.fault = none ∧ ppuStep 1 State.reset.cost State.reset = .ok () u ∧
      interruptService (timerStep State.reset.cost u) = .ok x w := ⟨_, _, _, rfl, rfl, rfl⟩
theorem witness_StepRunsDecodedInstruction_faulted : { State.reset with fault := some .stopUnmodelled }.fault ≠ none := by
  decide

/-- A parked state (60 R548). -/
def parked : State := { State.reset with cpu.halted := true }

theorem witness_HaltedStepExecutesNothing :
    ∃ u x w, parked.fault = none ∧ parked.cpu.halted = true ∧
      ppuStep (spdOf parked) 4 { parked with cost := 4, charge := 0 } = .ok () u ∧
      interruptService (timerStep 4 u) = .ok x w ∧ w.cpu.halted = true := ⟨_, _, _, rfl, rfl, rfl, rfl, rfl⟩
theorem witness_FaultIsFinal :
    { State.reset with fault := some .stopUnmodelled }.fault = some .stopUnmodelled := rfl

/-- One state for each cause of a fault (60 R546). -/
theorem witness_FaultsHaveTheirCauses_step :
    (∃ t, step (code [0xFD]) = .next t ∧ t.fault = some (.illegalOpcode 0xFD)) ∧
    (∃ t, step (code [0x10, 0x00]) = .next t ∧ t.fault = some .stopUnmodelled) ∧
    (∃ t, step shortRom = .next t ∧ t.fault = some (.romOutOfRange 0x0100)) ∧
    (∃ t, step { withMbc .mbc3 with
        cart.ramBank := 0x10, cart.romBank := 1, cart.rom := [(0x100, 0x7E)], cpu.h := 0xA0 } = .next t ∧
      t.fault = some (.rtcIndexOutOfRange 0x10)) :=
  ⟨⟨_, rfl, rfl⟩, ⟨_, rfl, rfl⟩, ⟨_, rfl, rfl⟩, ⟨_, rfl, rfl⟩⟩
theorem witness_FaultsHaveTheirCauses_exec :
    (∃ t, exec .illegal_d3 State.reset = .next t ∧ t.fault = some (.illegalOpcode 0xD3)) ∧
    (∃ t, exec (.stop 0x00) State.reset = .next t ∧ t.fault = some .stopUnmodelled) := ⟨⟨_, rfl, rfl⟩, ⟨_, rfl, rfl⟩⟩

/-- The invariant holds in a state that is not that of reset: IME set, a byte in WRAM, a later line. -/
def later : State :=
  { State.reset with cpu.ime := true, wram := [(0x10, 0x42)], ppu.ly := 0x99, ppu.mode := 1, timer.divAcc := 254 }
theorem witness_Inv : Inv later :=
  { arrays := by constructor <;> decide, counters := by constructor <;> decide +kernel
    units := ⟨by decide, by decide, by decide, by decide, by decide, rfl, by decide, fun _ => rfl⟩ }
/-- Whether an answer is a next state. -/
def isNext : Answer → Bool
  | .next _ => true
  | _ => false
theorem next_of_isNext {o : Answer} (h : isNext o = true) : ∃ t, o = .next t := by
  cases o with
  | next t => exact ⟨t, rfl⟩
  | fault r => cases h
  | refused r => cases h
theorem witness_InvKeptByEveryStep : ∃ t, step later = .next t := next_of_isNext (by decide +kernel)
theorem witness_InvFromConstructAndHost :
    ∃ s, construct (List.replicate 0x150 0x00) true true (cgbBoot 0x00) InitialRam.empty = .ok s := by
  unfold construct
  rw [List.length_replicate, if_neg (by decide)]
  exact ⟨_, rfl⟩
theorem witness_FixedByEveryStep : ∃ t, step State.reset = .next t := ⟨_, rfl⟩
theorem witness_ParkedStaysParked : Parked parked ∧ ∃ t, step parked = .next t ∧ t.fault = none :=
  ⟨⟨rfl, rfl, rfl, rfl⟩, ⟨_, rfl, rfl⟩⟩
theorem witness_SoundIsInvisible : SameButSound State.reset { State.reset with apu.lfsr := 1 } := ⟨rfl, rfl⟩

/-- An address at each end of each region (20 R103, R105). -/
theorem witness_ReadMap_WriteMap :
    (0x7FFF#16).toNat < 0x8000 ∧ (0x8000 ≤ (0x9FFF#16).toNat ∧ (0x9FFF#16).toNat < 0xA000) ∧
    (0xA000 ≤ (0xBFFF#16).toNat ∧ (0xBFFF#16).toNat < 0xC000) ∧ (0xC000 ≤ (0xCFFF#16).toNat ∧ (0xCFFF#16).toNat < 0xD000) ∧
    (0xD000 ≤ (0xDFFF#16).toNat ∧ (0xDFFF#16).toNat < 0xE000) ∧ (0xE000 ≤ (0xFDFF#16).toNat ∧ (0xFDFF#16).toNat < 0xFE00) ∧
    (0xFE00 ≤ (0xFE9F#16).toNat ∧ (0xFE9F#16).toNat < 0xFEA0) ∧ (0xFEA0 ≤ (0xFEFF#16).toNat ∧ (0xFEFF#16).toNat < 0xFF00) ∧
    (0xFF00 ≤ (0xFF7F#16).toNat ∧ (0xFF7F#16).toNat < 0xFF80) ∧ (0xFF80 ≤ (0xFFFE#16).toNat ∧ (0xFFFE#16).toNat < 0xFFFF) ∧
    (0xFFFF#16).toNat = 0xFFFF := by decide
theorem witness_ReadMap_answers :
    peek 0xC000 State.reset = .ok ⟨0x00, 0x00⟩ ∧ peek 0x0100 shortRom = .error (.romOutOfRange 0x0100) := by decide
theorem witness_WriteMap_cartRam :
    (∃ c, writeCartRam (withMbc .mbc1).cart 0xA000 0x42 = .ok c) ∧
    writeCartRam (written 0x4000 0x10 (withMbc .mbc3)).cart 0xBFFF 0x42 = .error (.rtcIndexOutOfRange 0x10) :=
  ⟨⟨_, rfl⟩, by decide⟩
theorem witness_WramBankAndEcho :
    State.reset.cgbMode = false ∧ cgb.cgbMode = true ∧ (0xE000 ≤ (0xE000#16).toNat ∧ (0xE000#16).toNat ≤ 0xFDFF) ∧
    (0xE000 ≤ (0xFDFF#16).toNat ∧ (0xFDFF#16).toNat ≤ 0xFDFF ∧ 0xF000 ≤ (0xFDFF#16).toNat) := by decide
theorem witness_IoReads : cgb.cgbMode = true ∧ 15 < 16 ∧ 31 < 32 ∧ 3 < 4 := by decide
theorem witness_IoWriteEffects : cgb.cgbMode = true ∧ (0x7F#8).getLsbD 7 = false := by decide
theorem witness_IoStoresAndUnmapped :
    cgb.cgbMode = true ∧ 15 < 16 ∧ (0b101#3).extractLsb' 0 2 ≠ State.reset.timer.tac.extractLsb' 0 2 := by decide
theorem witness_IoStoresAndUnmapped_addresses :
    unmappedIo true 0xFF7F ∧ unmappedIo true 0xFF01 ∧ unmappedIo false 0xFF55 := by
  refine ⟨?_, ?_, ?_⟩ <;> unfold unmappedIo
  · exact .inr (.inr (.inr (.inr (.inr (.inr (.inr (.inr (.inl (by decide)))))))))
  · exact .inl (by decide)
  · exact .inr (.inr (.inr (.inr (.inr (.inr (.inr (.inr (.inr (by decide)))))))))

/-- The form of every array, in a state with one byte of WRAM. -/
theorem witness_ArraysInv : ArraysInv later := witness_Inv.arrays
/-- A state with the form and MBC2 RAM enabled. -/
def laterMbc2 : State := { later with cart.mbc := .mbc2, cart.ramEnabled := true }
theorem witness_ArraysInv_mbc2 : ArraysInv laterMbc2 := by constructor <;> decide
theorem witness_StoredByteReadsBack :
    cellOf 0xFDFF later = some (.wram 0x1DFF) ∧ cellOf 0xFFFF later = some .ie ∧ cellOf 0xFFFE later = some (.hram 126) ∧
    cellOf 0xBFFF laterMbc2 = some (.nibble 0x1FF) ∧ cellOf 0x8000 later = some (.vram 0) := by decide +kernel
theorem witness_OamDmaCopies :
    later.ppu.oam.wf = true ∧ blockReadable (mkWord 0xC0 0) 160 later = true ∧ peek 0xC010 later = .ok ⟨0x42, 0x00⟩ := by
  decide +kernel

/-- A CGB state with a transfer set up from WRAM. -/
def hdmaSet : State := { cgb with hdma := { src := 0xC000, dst := 0x9FF0, remaining := 0, active := false } }
/-- The same, active. -/
def hdmaOn : State := { cgb with hdma := { src := 0xC000, dst := 0x9FF0, remaining := 1, active := true } }
theorem witness_HdmaWrite :
    hdmaOn.cgbMode = true ∧ hdmaOn.hdma.active = true ∧ hdmaSet.hdma.active = false ∧ (0x7F#8).getLsbD 7 = false ∧
    (0x80#8).getLsbD 7 = true ∧ 0x8000 ≤ hdmaSet.hdma.dst.toNat ∧ hdmaSet.hdma.dst.toNat < 0xA000 ∧
    peek hdmaSet.hdma.src hdmaSet = .ok ⟨0x00, 0x00⟩ := by decide
/-- A cartridge shorter than the address the HDMA source names. -/
theorem witness_HdmaWrite_stops :
    peek 0x0010 { hdmaSet with cart.romLength := 0 } = .error (.romOutOfRange 0x10) := by decide
theorem witness_HdmaTransferCopies :
    hdmaSet.cgbMode = true ∧ hdmaSet.hdma.active = false ∧ hdmaSet.ppu.vram.wf = true ∧
    blockReadable hdmaSet.hdma.src (((0x00#8 &&& 0x7F).toNat + 1) * 16) hdmaSet = true ∧
    (∀ i < 16, (hdmaSet.hdma.src + BitVec.ofNat 16 i).toNat < 0x8000 ∨
      0xA000 ≤ (hdmaSet.hdma.src + BitVec.ofNat 16 i).toNat) := by decide
theorem witness_HdmaBlockAndStatus :
    hdmaOn.cgbMode = true ∧ hdmaOn.hdma.remaining ≤ 128 ∧ hdmaOn.hdma.active = true ∧ 1 ≤ hdmaOn.hdma.remaining ∧
    blockReadable hdmaOn.hdma.src 16 hdmaOn = true ∧ hdmaSet.hdma.active = false ∧ hdmaSet.hdma.remaining = 0 ∧
    { hdmaOn.hdma with active := false, remaining := 128 }.remaining ≤ 128 := by decide
theorem witness_Joypad : 7 < 8 ∧ Button.down.bit = 7 := by decide

theorem witness_RomReads :
    (0x3FFF#16).toNat < 0x4000 ∧ (0x7FFF#16).toNat < 0x8000 ∧ 0x3FFF < State.reset.cart.romLength ∧
    0x7FFF < State.reset.cart.romLength ∧ shortRom.cart.romLength ≤ 0x0100 := by decide
/-- For Mbc1Control, OtherControllers and CartridgeRam. -/
theorem witness_controllers :
    (withMbc .romOnly).cart.mbc = .romOnly ∧ (withMbc .mbc1).cart.mbc = .mbc1 ∧ (withMbc .mbc2).cart.mbc = .mbc2 ∧
    (withMbc .mbc3).cart.mbc = .mbc3 ∧ (withMbc .mbc5).cart.mbc = .mbc5 ∧ (withMbc .mbc1).cart.ramEnabled = true ∧
    State.reset.cart.ramEnabled = false := by decide
/-- The edges of the four control ranges and the values of a RAM enable (20 R156). -/
theorem witness_Mbc1Control :
    (0x1FFF#16).toNat ≤ 0x1FFF ∧ 0x2000 ≤ (0x2000#16).toNat ∧ (0x3FFF#16).toNat ≤ 0x3FFF ∧ 0x4000 ≤ (0x4000#16).toNat ∧
    (0x5FFF#16).toNat ≤ 0x5FFF ∧ 0x6000 ≤ (0x6000#16).toNat ∧ (0x7FFF#16).toNat ≤ 0x7FFF ∧
    (0xFA#8 &&& 0x0F = 0x0A) ∧ (0xF0#8 &&& 0x0F = 0x00) ∧ (0x01#8 &&& 0x0F ≠ 0x0A) ∧ (0x01#8 &&& 0x0F ≠ 0x00) ∧
    (withMbc .mbc1).cart.mbc1RamMode = false ∧ (written 0x6000 0x01 (withMbc .mbc1)).cart.mbc1RamMode = true ∧
    (0x00#8).getLsbD 0 = false ∧ (0x01#8).getLsbD 0 = true := by decide
theorem witness_OtherControllers :
    (0x1EFF#16).getLsbD 8 = false ∧ (0x1FFF#16).getLsbD 8 = true ∧ (0x3EFF#16).getLsbD 8 = false ∧
    (0x3FFF#16).getLsbD 8 = true ∧ (0x02#8 ≠ 0x00 ∧ 0x02#8 ≠ 0x01) ∧ (0xA000 ≤ (0xBFFF#16).toNat ∧ (0xBFFF#16).toNat ≤ 0xBFFF) := by
  decide
theorem witness_CartridgeRam :
    (withMbc .mbc3).cart.ramBank.toNat < 4 ∧
    (4 ≤ (written 0x4000 0x0F (withMbc .mbc3)).cart.ramBank.toNat ∧
      (written 0x4000 0x0F (withMbc .mbc3)).cart.ramBank.toNat ≤ 0x0F) ∧
    0x0F < (written 0x4000 0x10 (withMbc .mbc3)).cart.ramBank.toNat ∧ (withMbc .mbc3).cart.rtcIsLatched = false ∧
    (written 0x6000 0x00 (withMbc .mbc3)).cart.rtcIsLatched = true := by decide
theorem witness_ConstructAndReset :
    (List.replicate 0x14F (0x00 : Byte)).length < 0x150 ∧ 0x150 ≤ (List.replicate 0x150 (0x00 : Byte)).length := by
  rw [List.length_replicate, List.length_replicate]
  decide

/-- For AddAndAdc, SubSbcAndCp, AndXorAndOr and IncrementAndDecrement: a state with HL at a readable byte, and one with HL past the ROM's end. -/
theorem witness_AluForms :
    peek (getHL (withHL 0xC000 State.reset)) (withHL 0xC000 State.reset) = .ok ⟨0x00, 0x00⟩ ∧
    peek (getHL (withHL 0xFEA0 State.reset)) (withHL 0xFEA0 State.reset) = .ok ⟨0x00, 0xFF⟩ ∧
    peek (getHL (withHL 0x7FFF shortRom)) (withHL 0x7FFF shortRom) = .error (.romOutOfRange 0x7FFF) := by decide
theorem witness_IncrementAndDecrement :
    writable (getHL (withHL 0xC000 State.reset)) 0x01 (withHL 0xC000 State.reset) = true ∧
    writable (getHL (withHL 0xC000 State.reset)) 0xFF (withHL 0xC000 State.reset) = true := by decide
/-- For IncrementAndDecrement and ReadsModifies: HL at HDMA5 with a source past the ROM's end. The read gives 0xFF; what
is written back (0x00 by INC, 0x7F by RES 7) starts a transfer, which faults. -/
def badDma : State :=
  { shortRom with cgbMode := true, supportMode := .cgbOnly, hdma := { State.reset.hdma with src := 0x0100 }, cpu.h := 0xFF, cpu.l := 0x55 }
theorem witness_modify_stops :
    peek (getHL badDma) badDma = .ok ⟨0xFF, 0x00⟩ ∧
    (∃ t, busWrite (getHL badDma) 0x00 badDma = .stop (.romOutOfRange 0x0100) t) ∧
    ∃ t, busWrite (getHL badDma) 0x7F badDma = .stop (.romOutOfRange 0x0100) t := ⟨by decide, ⟨_, rfl⟩, ⟨_, rfl⟩⟩
theorem witness_DaaGivesDecimalResults : 99 < 100 ∧ (af (bcd 99) 0xF0).cpu.a = bcd 99 := by decide
/-- For RotatesAndShifts and CbBitResSet. -/
theorem witness_ReadsModifies :
    R8.b.reg = some .b ∧ R8.atHL.reg = none ∧ peek (getHL (withHL 0xDFFF State.reset)) (withHL 0xDFFF State.reset) = .ok ⟨0x00, 0x00⟩ ∧
    ∀ v, writable (getHL (withHL 0xDFFF State.reset)) v (withHL 0xDFFF State.reset) = true :=
  ⟨rfl, rfl, rfl, fun _ => rfl⟩
/-- For MemoryLoads. -/
theorem witness_LoadsFrom :
    peek 0xFFFF State.reset = .ok ⟨0x00, 0x00⟩ ∧ peek 0x0100 shortRom = .error (.romOutOfRange 0x0100) := by decide
/-- For MemoryStores. -/
theorem witness_StoresAt :
    writable (getHL (withHL 0xC0FF (af 0x11 0xB0))) 0x11 (withHL 0xC0FF (af 0x11 0xB0)) = true ∧
    writable 0xFFFF 0xAA State.reset = true ∧ writable 0x0000 0x0A State.reset = true ∧
    ∃ t, busWrite 0xA000 0x01 (written 0x4000 0x10 (withMbc .mbc3)) = .stop (.rtcIndexOutOfRange 0x10) t :=
  ⟨by decide, by decide, by decide, ⟨_, rfl⟩⟩
theorem witness_StoreFrame :
    cellOf (getHL (withHL 0xFE9F later)) (withHL 0xFE9F later) = some (.oam 159) ∧
    cellOf (0xFF#8 ++ 0xFF#8) later = some .ie ∧ cellOf (0xFF#8 ++ 0x80#8) later = some (.hram 0) := by decide
theorem witness_StoreFrame_form : ArraysInv (withHL 0xFE9F later) := by constructor <;> decide
theorem witness_StoreFrame_sp : ArraysInv (withSP 0xFFFE later) := by constructor <;> decide
/-- Two different bytes of storage at the ends of two ranges, and a byte at HL that can be read. -/
theorem witness_StoreFrame_word :
    cellOf (0xDFFF : Word) later = some (.wram 0x1FFF) ∧ cellOf ((0xDFFF : Word) + 1) later = some (.wram 0) ∧
    cellOf ((withSP 0xFFFE later).cpu.sp - 2) (withSP 0xFFFE later) = some (.hram 124) ∧
    cellOf ((withSP 0xFFFE later).cpu.sp - 2 + 1) (withSP 0xFFFE later) = some (.hram 125) ∧
    peek (getHL (withHL 0xFE9F later)) (withHL 0xFE9F later) = .ok ⟨0x00, 0x00⟩ := by
  refine ⟨?_, ?_, ?_, ?_, ?_⟩ <;> decide +kernel

/-- For PushAndStoreSp and CallsAndRestarts: a stack in WRAM just above its start. -/
theorem witness_PushOk_pair : PushOk (getQq .af (withSP 0xC002 State.reset)) (withSP 0xC002 State.reset) :=
  ⟨by decide, fun u h => by cases h; decide⟩
theorem witness_PushOk_pc : PushOk (withSP 0xC002 State.reset).cpu.pc (withSP 0xC002 State.reset) :=
  ⟨by decide, fun u h => by cases h; decide⟩
theorem witness_PushAndStoreSp :
    writable 0xDFFF (loByte State.reset.cpu.sp) State.reset = true ∧
    ∀ u, busWrite 0xDFFF (loByte State.reset.cpu.sp) State.reset = .ok () u →
      writable (0xDFFF + 1) (hiByte State.reset.cpu.sp) u = true :=
  ⟨by decide, fun u h => by cases h; decide⟩
/-- An MBC3 state that selects a missing RTC register: every access to 0xA000 to 0xBFFF faults. -/
def badRtc : State := written 0x4000 0x10 (withMbc .mbc3)
/-- For PushAndStoreSp, CallsAndRestarts and InterruptService: the first write faults, or the second. -/
theorem witness_PushStops :
    (∃ t, PushStops 0x1234 (withSP 0xA001 badRtc) (.rtcIndexOutOfRange 0x10) t) ∧
    ∃ t, PushStops 0x1234 (withSP 0xC001 badRtc) (.rtcIndexOutOfRange 0x10) t :=
  ⟨⟨_, .inl rfl⟩, ⟨_, .inr ⟨_, rfl, rfl⟩⟩⟩
theorem witness_StoreSp_stops :
    (∃ t, busWrite 0xA000 0xFE badRtc = .stop (.rtcIndexOutOfRange 0x10) t) ∧
    ∃ u t, busWrite 0x9FFF 0xFE badRtc = .ok () u ∧ busWrite 0xA000 0xFF u = .stop (.rtcIndexOutOfRange 0x10) t :=
  ⟨⟨_, rfl⟩, ⟨_, _, rfl, rfl⟩⟩
/-- The joypad interrupt dispatched with the stack where every access faults. -/
def badStack : State := withSP 0xA001 { badRtc with ie := 0x10, ifr := 0b10000, cpu.ime := true }
theorem witness_InterruptService_stops :
    badStack.cpu.enabling = false ∧ badStack.cpu.ime = true ∧
    (badStack.ifr &&& badStack.ie.extractLsb' 0 5).getLsbD 4 = true ∧
    (∀ j < 4, (badStack.ifr &&& badStack.ie.extractLsb' 0 5).getLsbD j = false) ∧
    ∃ u, PushStops badStack.cpu.pc { badStack with
        cpu.ime := false, cpu.halted := false, ifr := badStack.ifr &&& ~~~((1 : BitVec 5) <<< 4) }
      (.rtcIndexOutOfRange 0x10) u := ⟨by decide, by decide, by decide, by decide, ⟨_, .inl rfl⟩⟩
/-- For PopAndWhatWasPushed and Returns: the first read faults, or the second. -/
theorem witness_PopStops :
    (∃ t, PopStops (withSP 0xBFFF badRtc) (.rtcIndexOutOfRange 0x10) t) ∧
    ∃ t, PopStops (withSP 0x9FFF badRtc) (.rtcIndexOutOfRange 0x10) t :=
  ⟨⟨_, .inl ⟨rfl, rfl⟩⟩, ⟨_, .inr ⟨_, rfl, rfl, rfl⟩⟩⟩
/-- For PopAndWhatWasPushed and Returns: SP at the last address, the high byte at 0x0000. -/
theorem witness_PopOk : PopOk (withSP 0xFFFF State.reset) := ⟨by decide, by decide⟩
theorem witness_PopAndWhatWasPushed :
    ArraysInv later ∧ cellOf (later.cpu.sp - 1) later = some (.hram 125) ∧
    cellOf (later.cpu.sp - 2) later = some (.hram 124) ∧ Cell.hram 125 ≠ Cell.hram 124 ∧ byteCell (.hram 125) = true ∧
    Qq.bc ≠ Qq.af := ⟨witness_ArraysInv, by decide, by decide, by decide, by decide, by decide⟩
/-- For Jumps, CallsAndRestarts and Returns. -/
theorem witness_taken :
    taken .nz (af 0x00 0x00) ∧ ¬taken .z (af 0x00 0x00) ∧ taken .c (af 0x00 0x10) ∧ ¬taken .nc (af 0x00 0x10) := by
  refine ⟨?_, ?_, ?_, ?_⟩ <;> (unfold taken; decide)
theorem witness_SystemInstructions :
    (cgb.cgbMode = true ∧ { cgb with speedArmed := true }.speedArmed = true) ∧
    ¬(State.reset.cgbMode = true ∧ State.reset.speedArmed = true) := by decide
theorem witness_IllegalOpcodesFault :
    ((0xFD : Byte), Instr.illegal_fd) ∈ illegalRows ∧ (code [0xFD]).fault = none ∧ (code [0xFD]).cpu.halted = false ∧
    peek (code [0xFD]).cpu.pc (code [0xFD]) = .ok ⟨0xFD, 0x00⟩ := by decide

/-- The joypad interrupt alone pending and enabled, its stack writable. -/
def joypadPending : State := { State.reset with ie := 0x10, ifr := 0b10000, cpu.ime := true }
theorem witness_InterruptService_dispatch :
    joypadPending.cpu.enabling = false ∧ joypadPending.cpu.ime = true ∧
    (joypadPending.ifr &&& joypadPending.ie.extractLsb' 0 5).getLsbD 4 = true ∧
    (∀ j < 4, (joypadPending.ifr &&& joypadPending.ie.extractLsb' 0 5).getLsbD j = false) := by decide
theorem witness_InterruptService_push :
    PushOk joypadPending.cpu.pc { joypadPending with
      cpu.ime := false, cpu.halted := false, ifr := joypadPending.ifr &&& ~~~((1 : BitVec 5) <<< 4) } :=
  ⟨by decide, fun u h => by cases h; decide⟩
theorem witness_InterruptService_others :
    { State.reset with cpu.enabling := true }.cpu.enabling = true ∧
    State.reset.ifr &&& State.reset.ie.extractLsb' 0 5 = 0 ∧
    ({ joypadPending with cpu.ime := false }.cpu.ime = false ∧
      joypadPending.ifr &&& joypadPending.ie.extractLsb' 0 5 ≠ 0) ∧ parked.cpu.halted = true := by decide
theorem witness_DividerAndTimer : (0b011#3).getLsbD 2 = false ∧ (0b100#3).getLsbD 2 = true := by decide

/-- The last cycles of line 143, of line 153, and of mode 3 of a line with an H-blank block pending. -/
theorem witness_PpuStep :
    State.reset.ppu.lcdc.getLsbD 7 = true ∧ 455 < 456 * 1 ∧ 911 < 456 * 2 ∧ (143#8).toNat ≤ 153 ∧ (153#8).toNat ≤ 153 ∧
    { State.reset.ppu with lcdc := 0x11 }.lcdc.getLsbD 7 = false ∧ hdmaOn.hdma.active = true ∧
    blockReadable hdmaOn.hdma.src 16 hdmaOn = true ∧ modeOf 1 144 3 = 1 ∧ modeOf 2 0 504 = 0 := by decide
/-- A sprite and a column where it is opaque, one where it is transparent. -/
def oneSprite : Ppu := { State.reset.ppu with vram := [(0, 0xFF)], lcdc := 0x93 }
theorem witness_LinePixels :
    spritePixel false oneSprite ⟨16, 8, 0, 0⟩ 0 0 ≠ 0 ∧ (∀ q ∈ [Sprite.mk 16 8 1 0], spritePixel false oneSprite q 0 0 = 0) ∧
    oneSprite.lcdc.getLsbD 0 = true ∧ oneSprite.lcdc.getLsbD 5 = false ∧
    { oneSprite with lcdc := 0x92 }.lcdc.getLsbD 0 = false := by decide
/-- A row and a column of that sprite, the last ones; its columns and rows end there. The window covers a pixel left of
its own start on the screen, and another is left to the background. -/
theorem witness_LinePixels_forms :
    ((7 : Nat) : Int) = (7 : Nat) - (((8#8).toNat : Int) - 8) ∧ ((7 : Nat) : Int) = (7 : Nat) - (((16#8).toNat : Int) - 16) ∧
    7 < spriteRows oneSprite ∧ (((8#8).toNat : Int) - 8 + 7 < (8 : Nat)) ∧ (((0 : Nat) : Int) < ((9#8).toNat : Int) - 8) ∧
    windowSpec false { oneSprite with lcdc := 0xB3, wx := 3 } 0 0 ∧
    ¬windowSpec false { oneSprite with lcdc := 0xB3, wx := 8 } 0 0 ∧
    windowSpec true { oneSprite with lcdc := 0xB2, wx := 7, wy := 9 } 0 9 := by
  refine ⟨by decide, by decide, by decide, by decide, by decide, ?_, ?_, ?_⟩ <;> (unfold windowSpec; decide)
theorem witness_ApuWritesAndNoise :
    (0x10 ≤ 0x26 ∧ (0x26 ≠ 0x14 ∧ 0x26 ≠ 0x19 ∧ 0x26 ≠ 0x1E ∧ 0x26 ≠ 0x23)) ∧ (0x7F#8).getLsbD 7 = false ∧
    State.reset.apu.regs.wf = true ∧ (0xC7#8).getLsbD 7 = true ∧ 14 < 15 ∧
    (0x22 ≠ 0x1A ∧ 0x22 ≠ 0x1C ∧ 0x22 < 0x24 ∧ (0x14 < 0x24 ∧ (0x07#8).getLsbD 7 = false)) := by decide
/-- 62 R702, R710: a channel triggered with duty 0.125 keeps it when NR11 is written, until the next trigger. -/
theorem test_duty_at_trigger :
    let a := (State.reset.apu.writeAt 48000 0x11 0x00).writeAt 48000 0x14 0x80
    let b := a.writeAt 48000 0x11 0x80
    (a.ch1.duty, b.ch1.duty, (b.writeAt 48000 0x14 0x80).ch1.duty) = (0, 0, 2) := by decide
/-- 62 R702, R711: the width of the LFSR follows NR43[3] at the trigger of channel 4. -/
theorem test_width_at_trigger :
    let a := State.reset.apu.writeAt 48000 0x22 0x08
    (a.narrow, (a.writeAt 48000 0x23 0x80).narrow) = (false, true) := by decide
/-- 60 R542: the draws taken after a restore are new. -/
theorem test_restore_draws :
    (restore { State.reset with draws := 3 } { State.reset with draws := 7 }).draws = 7 := by decide
/-- A sounding channel with one sample left. -/
def oneLeft : Apu := { State.reset.apu with ch3 := { State.reset.apu.ch3 with on := true, duration := some 1 } }
theorem witness_ApuSampling :
    (oneLeft.chan .three).on = true ∧ (oneLeft.chan .three).duration = some 1 ∧ (State.reset.apu.chan .one).on = false ∧
    ({ State.reset.apu with regs := [] }.regs.get 0x26).getLsbD 7 = false ∧
    { State.reset.apu with soundEnabled := false }.soundEnabled = false ∧
    ((3#4).toNat + 12 = 15 ∧ (3#4).toNat = 3) := by decide
/-- An on channel of each kind, the wave channel switched on and off, at a phase in sample 0. -/
def sounding (regs : Memory) : Apu := { State.reset.apu with
  regs := regs, ch1 := { State.reset.apu.ch1 with on := true }, ch3 := { State.reset.apu.ch3 with on := true },
  ch4 := { State.reset.apu.ch4 with on := true } }
theorem witness_ApuSampling_forms :
    ((sounding []).chan .one).on = true ∧ ((sounding []).chan .one).kind = .square ∧
    ((sounding []).chan .four).on = true ∧ ((sounding []).chan .four).kind = .noise ∧
    ((sounding []).chan .three).on = true ∧ ((sounding []).chan .three).kind = .wave ∧
    ((sounding []).regs.get 0x1A).getLsbD 7 = false ∧ ((sounding [(0x1A, 0x80)]).regs.get 0x1A).getLsbD 7 = true ∧
    ⌊((sounding [(0x1A, 0x80)]).chan .three).phase * 32⌋ = ((0 : Nat) : Int) ∧
    ((sounding [(0x26, 0x80)]).regs.get 0x26).getLsbD 7 = true ∧ (sounding []).soundEnabled = true ∧
    Chan.two ≠ Chan.one := by
  refine ⟨rfl, rfl, rfl, rfl, rfl, rfl, by decide, by decide, ?_, by decide, rfl, by decide⟩
  show ⌊(0 : Rat) * 32⌋ = 0
  norm_num
theorem witness_ApuSampling_off :
    State.reset.apu.ch1.kind = .square ∧ State.reset.apu.ch2.kind = .square ∧ State.reset.apu.ch3.kind = .wave ∧
    State.reset.apu.ch4.on = false := by decide
/-- 10 R65 and 62 R720: construct covers both values of the LFSR at start (log 21). -/
theorem test_lfsr_at_start :
    (initialState 0x8000 [] false true { dmgBoot 0x00 with lfsr := .zero } .empty).apu.lfsr = 0 ∧
    (initialState 0x8000 [] false true { dmgBoot 0x00 with lfsr := .ones } .empty).apu.lfsr = 0x7FFF := by decide
/-- 62 R707, R708: an envelope step up from 3, and a sweep whose new frequency register passes 2047. -/
theorem test_envelopeSpec_and_sweepSpec :
    (envelopeSpec { State.reset.apu.ch1 with amplitude := 3, envDir := true, envTarget := 12, envSamplesPerStep := 1 }).amplitude
      = 4 ∧
    (Channel.advanceEnvelope
      { State.reset.apu.ch1 with amplitude := 3, envDir := true, envTarget := 12, envSamplesPerStep := 1 }).amplitude = 4 ∧
    (sweepSpec { State.reset.apu.ch1 with on := true, shadow := 2047, sweepSteps := 1, sweepLen := 1 }).on = false := by
  decide
/-- A halted machine 7 cycles below the budget: two steps of 4 cycles are run, no fault ends the run, and 1 is carried. -/
theorem witness_UpdateSpendsTheBudget_steps :
    ({ parked with frameCarry := 69898 } : State).fault = none ∧
    (update { parked with frameCarry := 69898 }).1 = 8 ∧ (update { parked with frameCarry := 69898 }).2.fault = none ∧
    (update { parked with frameCarry := 69898 }).2.frameCarry = 1 := by decide +kernel
/-- The budget is spent already; it is not, and the run goes on to a fault. -/
theorem witness_UpdateSpendsTheBudget :
    (∃ r, update { State.reset with frameCarry := 69905 } = r ∧ r.2.fault = none ∧
      69905 * (if State.reset.doubleSpeed then 2 else 1) ≤ 69905) ∧
    (∃ r, update (code [0x00, 0xDD]) = r ∧ r.2.fault ≠ none) := by
  refine ⟨⟨_, rfl, ?_, by decide⟩, ⟨_, rfl, ?_⟩⟩
  · decide +kernel
  · decide +kernel
/-- A row drawn in `prepared`: its last pixel is the frame's. -/
theorem witness_FrameAndSaveData_frame :
    Frame.wfFrom 0 [(143, List.replicate 160 (Pixel.shade 2))] = true ∧ 159 < 160 ∧ 143 < 144 ∧
    ((Frame.row [(143, List.replicate 160 (Pixel.shade 2))] 143).getD 159 .black) = .shade 2 := by decide +kernel
theorem witness_FrameAndSaveData_romOnly : Inv later ∧ later.cart.mbc = .romOnly := ⟨witness_Inv, rfl⟩
theorem witness_FrameAndSaveData_mbc2 : Inv laterMbc2 ∧ laterMbc2.cart.mbc = .mbc2 ∧ 511 < 512 :=
  ⟨{ arrays := witness_ArraysInv_mbc2, counters := by constructor <;> decide +kernel
     units := ⟨by decide, by decide, by decide, by decide, by decide, by show _ ∧ _; decide, by decide, fun _ => rfl⟩ },
    rfl, by decide⟩
/-- A state with MBC5 and a byte of cartridge RAM. -/
def laterMbc5 : State := { later with cart.mbc := .mbc5, cart.ram := [(0x1FFFF, 0x5A)] }
theorem witness_FrameAndSaveData_mbc5 : Inv laterMbc5 ∧ laterMbc5.cart.mbc = .mbc5 ∧ 0x1FFFF < 0x20000 :=
  ⟨{ arrays := by constructor <;> decide, counters := by constructor <;> decide +kernel
     units := ⟨by decide, by decide, by decide, by decide, by decide, by show _ ≤ _; decide, by decide, fun _ => rfl⟩ },
    rfl, by decide⟩

end Sys2Proof.Tests
end

section
/-! PROOF. The rules the step's proofs share: a predicate that every part of a step keeps is kept by the whole step. -/

namespace Sys2Proof.Machine

/-! ## A property of the state a result leaves -/

theorem Res.state_bind {α β : Type} {P : State → Prop} {x : Res α} {k : α → State → Res β} (hx : P x.state)
    (hk : ∀ a t, x = .ok a t → P t → P (k a t).state) : P (x.bind k).state := by
  cases x with
  | ok a t => exact hk a t rfl hx
  | stop r t => exact hx

theorem Res.state_then {α : Type} {P : State → Prop} {x : Res α} {k : α → State → State} (hx : P x.state)
    (hk : ∀ a t, x = .ok a t → P t → P (k a t)) : P (x.then k).state :=
  Res.state_bind hx hk

theorem Res.state_ite {α : Type} {P : State → Prop} {c : Prop} [Decidable c] {x y : Res α} (hx : c → P x.state)
    (hy : ¬c → P y.state) : P (if c then x else y).state := by
  by_cases h : c
  · rw [if_pos h]; exact hx h
  · rw [if_neg h]; exact hy h

/-! ## What every part of a step keeps, the step keeps -/

/-- `P` is kept by every part a step is made of, whether the part ends well or with a fault. It does not speak of the
CPU, IF, the fault or the model's own cycle counts. -/
structure StepInvariant (P : State → Prop) : Prop where
  core : ∀ (s : State) (c : Cpu) (i : BitVec 5) (f : Option Fault) (k g : Nat), P s →
    P { s with cpu := c, ifr := i, fault := f, cost := k, charge := g }
  speed : ∀ s : State, s.cgbMode = true → P s → P (switchSpeed s)
  read : ∀ (a : Word) (s : State), P s → P (busRead a s).state
  write : ∀ (a : Word) (v : Byte) (s : State), P s → P (busWrite a v s).state
  ppu : ∀ (spd c : Nat) (s : State), spd = 1 ∨ spd = 2 → P s → P (ppuStep spd c s).state
  timer : ∀ (c : Nat) (s : State), P s → P (timerStep c s)

namespace StepInvariant

variable {P : State → Prop} (hP : StepInvariant P) {s t : State}
include hP

theorem of_effect (h : Effect s t) (hs : P s) : P t := by
  induction h with
  | refl s => exact hs
  | cpu s c => exact hP.core s c _ _ _ _ hs
  | cost s n => exact hP.core s _ _ _ n _ hs
  | speed s h => exact hP.speed s h.1 hs
  | @read a s t b h => have k := hP.read a s hs; rw [h] at k; exact k
  | @write a v s t h => have k := hP.write a v s hs; rw [h] at k; exact k
  | trans _ _ ih ik => exact ik (ih hs)

theorem of_stops {e : Fault} (h : Stops s e t) (hs : P s) : P t := by
  obtain ⟨a, h⟩ | ⟨a, v, h⟩ := h
  · have k := hP.read a s hs; rw [h] at k; exact k
  · have k := hP.write a v s hs; rw [h] at k; exact k

theorem of_runs {α : Type} {x : Res α} (h : Runs s x) (hs : P s) : P x.state := by
  cases x with
  | ok a t => exact hP.of_effect h hs
  | stop e t =>
    obtain ⟨u, hu, ht⟩ := h
    exact hP.of_stops ht (hP.of_effect hu hs)

theorem of_recordFault (r : Fault) (hs : P s) : P (recordFault r s) := hP.core s _ _ _ _ _ hs

theorem of_outcome {x : Res Unit} (hx : P x.state) (h : x.outcome = .next t) : P t := by
  cases x with
  | ok a u => cases h; exact hx
  | stop r u => cases h; exact hP.of_recordFault r hx

theorem of_exec {i : Instr} (h : exec i s = .next t) (hs : P s) : P t := by
  cases exec_answers i s with
  | completes hc =>
    obtain ⟨x, hx, hr, -⟩ := hc
    exact hP.of_outcome (hP.of_runs hr hs) (hx.symm.trans h)
  | illegal o _ _ he => cases he.symm.trans h; exact hP.of_recordFault _ hs
  | stop x _ _ he => cases he.symm.trans h; exact hP.of_recordFault _ hs

theorem of_interruptService (hs : P s) : P (interruptService s).state := by
  unfold interruptService
  refine Res.state_ite (fun _ => hP.core s _ _ _ _ _ hs) fun _ => Res.state_ite (fun _ => hs) fun _ =>
    Res.state_ite (fun _ => ?_) fun _ => Res.state_ite (fun _ => hP.core s _ _ _ _ _ hs) fun _ => hs
  exact Res.state_bind (hP.of_runs (runs_callTo _ _) (hP.core s _ _ _ _ _ hs)) fun _ _ _ ht => ht

theorem of_finishStep {spd : Nat} (hspd : spd = 1 ∨ spd = 2) (hs : P s) : P (finishStep spd s).state :=
  Res.state_bind (hP.ppu spd s.cost s hspd hs) fun _ t _ ht =>
    Res.state_then (hP.of_interruptService (hP.timer s.cost t ht)) fun _ u _ hu => hP.core u _ _ _ _ _ hu

/-- A step keeps what each of its parts keeps. -/
theorem of_step (h : step s = .next t) (hs : P s) : P t := by
  have hspd : spdOf s = 1 ∨ spdOf s = 2 := by unfold spdOf; split <;> simp
  have hb : P (beginStep s) := hP.core s _ _ _ _ _ hs
  have hfetch := hP.of_runs (runs_fetchInstr (beginStep s)) hb
  cases (step_ends h).2 with
  | idle _ h => exact hP.of_outcome (hP.of_finishStep hspd (hP.core s _ _ _ _ _ hs)) h
  | fetchFault _ r u h ht => rw [h] at hfetch; subst ht; exact hP.of_recordFault r hfetch
  | execFault _ i u h he _ => rw [h] at hfetch; exact hP.of_exec he hfetch
  | ran _ i u v h he _ ht => rw [h] at hfetch; exact hP.of_outcome (hP.of_finishStep hspd (hP.of_exec he hfetch)) ht

end StepInvariant

/-! ## What no step changes (O13) -/

/-- The parts of the state that no step changes: the ROM, the controller, the mode, the input mask, the leftover
cycles and the existence of the sampler. -/
def fixedPart (s : State) : Memory × Nat × Mbc × Bool × Bool × SupportMode × Byte × Nat × Bool :=
  (s.cart.rom, s.cart.romLength, s.cart.mbc, s.cart.battery, s.cgbMode, s.supportMode, s.inputMask, s.frameCarry,
    s.apu.soundEnabled)

theorem BusKeeps.fixedPart_eq {s t : State} (h : BusKeeps s t) : fixedPart t = fixedPart s := by
  simp only [fixedPart, h.rom, h.romLength, h.mbc, h.battery, h.cgbMode, h.supportMode, h.inputMask, h.frameCarry,
    h.soundEnabled]

theorem PpuKeeps.fixedPart_eq {s t : State} (h : PpuKeeps s t) : fixedPart t = fixedPart s :=
  (congrArg fixedPart h.state).trans rfl

theorem timerStep_fixedPart (c : Nat) (s : State) : fixedPart (timerStep c s) = fixedPart s :=
  (congrArg fixedPart (timerStep_eq c s)).trans rfl

theorem stepInvariant_fixedPart (s : State) : StepInvariant fun t => fixedPart t = fixedPart s where
  core _ _ _ _ _ _ h := h
  speed _ _ h := h
  read a t h := (busRead_state a t).1.fixedPart_eq.trans h
  write a v t h := (busWrite_keeps a v t).fixedPart_eq.trans h
  ppu spd c t _ h := (ppuStep_keeps spd c t).fixedPart_eq.trans h
  timer c t h := (timerStep_fixedPart c t).trans h

/-- Settles O13: the fixed part is kept by every bus access, the PPU and the timer, hence by the step. -/
theorem fixedByEveryStep : Obligations.FixedByEveryStep := by
  intro s t h
  have k := (stepInvariant_fixedPart s).of_step h rfl
  simpa only [fixedPart, Prod.mk.injEq] using k

/-! ## A recorded fault is final (O8) -/

theorem step_of_fault {s : State} {r : Fault} (h : s.fault = some r) : step s = .fault r := by
  unfold step runStep
  rw [h]

theorem updateLoop_of_fault {s : State} (h : s.fault ≠ none) (k spent : Nat) : updateLoop k spent s = (spent, s) := by
  cases k with
  | zero => rfl
  | succ k => exact if_neg fun hc => h hc.1

theorem update_of_fault {s : State} (h : s.fault ≠ none) : update s = (0, s) := by
  unfold update
  rw [updateLoop_of_fault h]
  exact if_neg h

theorem loadSaveData_fault (bs : List Byte) (s : State) : (loadSaveData bs s).fault = s.fault := by
  unfold loadSaveData
  split <;> rfl

theorem pull_fault (k : Nat) (s : State) : (pull k s).2.fault = s.fault := by
  induction k generalizing s with
  | zero => rfl
  | succ k ih =>
    unfold pull sample
    cases s.apu.soundEnabled with
    | false => rfl
    | true => exact ih _

theorem HostOp.apply_fault (o : HostOp) (s : State) : (o.apply s).fault = s.fault := by
  cases o with
  | press btn => rfl
  | release btn => rfl
  | loadSave bs => exact loadSaveData_fault bs s
  | pull k => exact pull_fault k s

/-- Settles O8: the step and the loop of `update()` test the fault first, and no host operation touches it. -/
theorem faultIsFinal : Obligations.FaultIsFinal :=
  ⟨rfl, fun s _ h => ⟨step_of_fault h, update_of_fault (by simp [h]), fun o => (o.apply_fault s).trans h⟩⟩

end Sys2Proof.Machine
end

section
/-! PROOF. The machine's invariant, part by part (10 R34 to R38, R51, R58 to R65, 20 R157 to R169): what each bus access,
the timer and the PPU keep of it, and from that every step. -/

namespace Sys2Proof.Machine

/-! ## The invariant by the parts of the state -/

/-- The cartridge's part of the invariant. -/
structure CartWf (c : Cart) : Prop where
  rom : arrayWf c.romLength c.rom = true
  ram : arrayWf 0x20000 c.ram = true
  mbc2Ram : arrayWf 512 c.mbc2Ram = true
  nibbles : (c.mbc2Ram.all fun x => decide (x.2.toNat < 16)) = true
  rtcLive : arrayWf 16 c.rtcLive = true
  rtcLatched : arrayWf 16 c.rtcLatched = true
  banks : banksWf c

/-- The APU's part. -/
structure ApuWf (a : Apu) : Prop where
  wave : arrayWf 16 a.wave = true
  regs : arrayWf 0x27 a.regs = true
  kinds : a.ch1.kind = .square ∧ a.ch2.kind = .square ∧ a.ch3.kind = .wave ∧ a.ch4.kind = .noise

/-- The PPU's part but for the mode in V-blank, which a line end breaks until the mode is set. -/
structure PpuWf (p : Ppu) : Prop where
  vram : arrayWf 0x4000 p.vram = true
  oam : arrayWf 160 p.oam = true
  bgPal : arrayWf 64 p.bgPal = true
  objPal : arrayWf 64 p.objPal = true
  ly : p.ly.toNat ≤ 153
  dot : p.dot < 912
  screen : Frame.wfFrom 0 p.screen = true
  prepared : Frame.wfFrom 0 p.prepared = true
  bgIndex : p.bgIndex.length = 160
  bgAttrPrio : p.bgAttrPrio.length = 160

/-- The divider's and the timer's part. -/
structure TimerWf (t : Timer) : Prop where
  divAcc : t.divAcc < 255
  timerCounter : t.timerCounter < 1024

/-- The HDMA unit's part. -/
structure HdmaWf (h : Hdma) : Prop where
  dst : 0x8000 ≤ h.dst.toNat ∧ h.dst.toNat < 0xA000
  remaining : h.remaining ≤ 128
  active : h.active = true → 1 ≤ h.remaining

/-- The invariant without the EI flag, as it holds inside a step too. -/
structure BodyInv (s : State) : Prop where
  ppu : PpuWf s.ppu
  vblank : 144 ≤ s.ppu.ly.toNat → s.ppu.mode = 1
  timer : TimerWf s.timer
  hdma : HdmaWf s.hdma
  cart : CartWf s.cart
  apu : ApuWf s.apu
  wram : arrayWf 0x8000 s.wram = true
  hram : arrayWf 127 s.hram = true
  dmgOnly : s.supportMode = .dmgOnly → s.cgbMode = false
  dmg : s.cgbMode = false →
    s.doubleSpeed = false ∧ s.speedArmed = false ∧ s.ppu.vbk = false ∧ s.svbk = 0 ∧ s.hdma.active = false

/-- The invariant is its parts and the EI flag, which no completed step leaves set (60 R513). -/
theorem inv_iff {s : State} : Inv s ↔ BodyInv s ∧ (s.fault = none → s.cpu.enabling = false) := by
  constructor
  · rintro ⟨a, c, u⟩
    exact ⟨{
      ppu := ⟨a.vram, a.oam, a.bgPal, a.objPal, c.ly, c.dot, c.screen, c.prepared, c.bgIndex, c.bgAttrPrio⟩
      vblank := c.vblankMode
      timer := ⟨c.divAcc, c.timerCounter⟩
      hdma := ⟨u.hdmaDst, u.hdmaRemaining, u.hdmaActive⟩
      cart := ⟨a.rom, a.ram, a.mbc2Ram, a.nibbles, a.rtcLive, a.rtcLatched, u.banks⟩
      apu := ⟨a.wave, a.regs, u.kinds⟩
      wram := a.wram, hram := a.hram, dmgOnly := u.dmgOnly, dmg := u.dmg }, u.enabling⟩
  · rintro ⟨⟨p, vb, t, d, c, u, w, h, o, g⟩, e⟩
    exact {
      arrays := ⟨p.vram, p.oam, p.bgPal, p.objPal, w, h, u.wave, u.regs, c.rom, c.ram, c.mbc2Ram, c.nibbles, c.rtcLive,
        c.rtcLatched⟩
      counters := ⟨t.divAcc, t.timerCounter, p.ly, p.dot, vb, p.screen, p.prepared, p.bgIndex, p.bgAttrPrio⟩
      units := ⟨d.dst, d.remaining, d.active, o, g, c.banks, u.kinds, e⟩ }

/-! ## Numbers of words and bytes -/

theorem toNat_and_le {n : Nat} (a b : BitVec n) : (a &&& b).toNat ≤ b.toNat := by
  rw [BitVec.toNat_and]; exact Nat.and_le_right

/-- A top bit set above a smaller number is added to it. -/
theorem toNat_or_of_lt {n i : Nat} {a b : BitVec n} (ha : a.toNat = 2 ^ i) (hb : b.toNat < 2 ^ i) :
    (a ||| b).toNat = 2 ^ i + b.toNat := by
  rw [BitVec.toNat_or, ha]
  simpa using (Nat.two_pow_add_eq_or_of_lt hb 1).symm

theorem mkWord_toNat (hi lo : Byte) : (mkWord hi lo).toNat = hi.toNat * 256 + lo.toNat := by
  rw [mkWord, BitVec.toNat_append, ← Nat.shiftLeft_add_eq_or_of_lt lo.isLt, Nat.shiftLeft_eq]

theorem hiByte_toNat (w : Word) : (hiByte w).toNat = w.toNat / 256 := by
  have := w.isLt
  simp only [hiByte, BitVec.extractLsb'_toNat, Nat.shiftRight_eq_div_pow]
  omega

/-! ## Arrays -/

theorem arrayWf_set {n i : Nat} {m : Memory} (v : Byte) (hi : i < n) (h : arrayWf n m = true) :
    arrayWf n (m.set i v) = true := by
  rw [arrayWf, Bool.and_eq_true] at h ⊢
  exact ⟨Memory.wf_set m i v h.1, Memory.below_set m v hi h.2⟩

theorem Memory.all_consCell {p : Host.Cell → Bool} {k : Nat} {v : Byte} {t : Memory} (hv : p (k, v) = true)
    (h : t.all p = true) : (Memory.cons k v t).all p = true := by
  unfold Memory.cons
  split
  · exact h
  · rw [List.all_cons, hv, h]; rfl

/-- A property of every cell is kept by storing a cell that has it. -/
theorem Memory.all_set {p : Host.Cell → Bool} {i : Nat} {v : Byte} (m : Memory) (hv : p (i, v) = true)
    (h : m.all p = true) : (m.set i v).all p = true := by
  induction m with
  | nil => exact Memory.all_consCell hv rfl
  | cons c t ih =>
    have h' := h
    rw [List.all_cons, Bool.and_eq_true] at h'
    unfold Memory.set
    split
    · exact Memory.all_consCell hv h
    · split
      · exact Memory.all_consCell hv h'.2
      · rw [List.all_cons, Bool.and_eq_true]; exact ⟨h'.1, ih h'.2⟩

theorem Frame.wfFrom_cons {lo y : Nat} {row : List Pixel} {t : Frame} : Frame.wfFrom lo ((y, row) :: t) = true ↔
    lo ≤ y ∧ y < Config.screenH ∧ row.length = Config.screenW ∧ Frame.wfFrom (y + 1) t = true := by
  simp [Frame.wfFrom, and_assoc]

/-- Drawing a row keeps the frame's form (10 R64). -/
theorem Frame.wfFrom_setRow {lo y : Nat} {row : List Pixel} (f : Frame) (hlo : lo ≤ y) (hy : y < Config.screenH)
    (hr : row.length = Config.screenW) (h : Frame.wfFrom lo f = true) : Frame.wfFrom lo (f.setRow y row) = true := by
  induction f generalizing lo with
  | nil => exact Frame.wfFrom_cons.mpr ⟨hlo, hy, hr, rfl⟩
  | cons c t ih =>
    obtain ⟨k, r⟩ := c
    obtain ⟨hk, hk2, hkr, ht⟩ := Frame.wfFrom_cons.mp h
    unfold Frame.setRow
    split
    · exact Frame.wfFrom_cons.mpr ⟨hlo, hy, hr, Frame.wfFrom_cons.mpr ⟨by omega, hk2, hkr, ht⟩⟩
    · split
      · next e => subst e; exact Frame.wfFrom_cons.mpr ⟨hlo, hy, hr, ht⟩
      · exact Frame.wfFrom_cons.mpr ⟨hk, hk2, hkr, ih (by omega) ht⟩

/-! ## The cartridge (20 R154 to R169) -/

/-- The bank numbers keep every access to the RAM window inside its array (20 R154, R160, R163, R168). -/
theorem ramTarget_bounds {c : Cart} {n : Nat} (hb : banksWf c) (hn : n < 0xC000) :
    (∀ i, ramTarget c n = .ram i → i < 0x20000) ∧ (∀ i, ramTarget c n = .nibble i → i < 512) ∧
      ∀ i, ramTarget c n = .rtc i → i < 16 := by
  unfold ramTarget
  split
  · exact ⟨nofun, nofun, nofun⟩
  · cases hm : c.mbc with
    | romOnly => exact ⟨nofun, nofun, nofun⟩
    | mbc1 =>
      simp only [banksWf, hm] at hb
      exact ⟨fun i e => by have := RamTarget.ram.inj e; omega, nofun, nofun⟩
    | mbc2 => exact ⟨nofun, fun i e => by have := RamTarget.nibble.inj e; omega, nofun⟩
    | mbc3 =>
      dsimp only
      split
      · exact ⟨fun i e => by have := RamTarget.ram.inj e; omega, nofun, nofun⟩
      · split
        · exact ⟨nofun, nofun, fun i e => by have := RamTarget.rtc.inj e; omega⟩
        · exact ⟨nofun, nofun, nofun⟩
    | mbc5 =>
      simp only [banksWf, hm] at hb
      exact ⟨fun i e => by have := RamTarget.ram.inj e; omega, nofun, nofun⟩

theorem writeCartRam_wf {c d : Cart} {n : Nat} {v : Byte} (h : CartWf c) (hn : n < 0xC000)
    (hd : writeCartRam c n v = .ok d) : CartWf d := by
  obtain ⟨hram, hnib, hrtc⟩ := ramTarget_bounds h.banks hn
  unfold writeCartRam at hd
  cases ht : ramTarget c n with
  | absent => rw [ht] at hd; cases hd; exact h
  | ram i => rw [ht] at hd; cases hd; exact { h with ram := arrayWf_set v (hram i ht) h.ram }
  | nibble i =>
    rw [ht] at hd; cases hd
    have hv : (v &&& 0x0F).toNat < 16 := Nat.lt_succ_of_le (toNat_and_le v 0x0F)
    exact { h with
      mbc2Ram := arrayWf_set _ (hnib i ht) h.mbc2Ram
      nibbles := Memory.all_set _ (decide_eq_true hv) h.nibbles }
  | rtc i =>
    rw [ht] at hd; cases hd
    cases c.rtcIsLatched with
    | true => exact { h with rtcLatched := arrayWf_set v (hrtc i ht) h.rtcLatched }
    | false => exact { h with rtcLive := arrayWf_set v (hrtc i ht) h.rtcLive }
  | badRtc b => rw [ht] at hd; cases hd

/-- 20 R157: after the zero-skip the low five bits are never 0, and the number stays below 0x80. -/
theorem mbc1Bump_legal {b : Byte} (h : b.toNat < 0x80) :
    mbc1Bump b &&& 0x1F ≠ 0 ∧ (mbc1Bump b).toNat < 0x80 := by
  unfold mbc1Bump
  split
  · next hz => obtain rfl | rfl | rfl | rfl := hz <;> decide
  · next hz =>
    refine ⟨fun h0 => hz ?_, h⟩
    have hm : b.toNat % 32 = 0 := by
      rw [← Nat.and_two_pow_sub_one_eq_mod b.toNat 5]
      simpa using congrArg BitVec.toNat h0
    have hb : b.toNat = 0 ∨ b.toNat = 32 ∨ b.toNat = 64 ∨ b.toNat = 96 := by omega
    simpa [← BitVec.toNat_inj] using hb

theorem zeroSkip_pos (b : Byte) : 1 ≤ (zeroSkip b).toNat := by
  unfold zeroSkip
  split
  · decide
  · next h => exact Nat.pos_of_ne_zero fun h0 => h (BitVec.eq_of_toNat_eq h0)

theorem zeroSkip_le {b : Byte} {n : Nat} (hn : 1 ≤ n) (h : b.toNat ≤ n) : (zeroSkip b).toNat ≤ n := by
  unfold zeroSkip
  split
  · exact hn
  · exact h

/-- 20 R156 to R159: the MBC1 control writes keep the bank numbers legal. -/
theorem mbc1Control_banks {c : Cart} (n : Nat) (v : Byte) (hlow : c.romBank &&& 0x1F ≠ 0)
    (hrom : c.romBank.toNat < 0x80) (hram : c.ramBank.toNat ≤ 3) :
    (mbc1Control c n v).romBank &&& 0x1F ≠ 0 ∧ (mbc1Control c n v).romBank.toNat < 0x80 ∧
      (mbc1Control c n v).ramBank.toNat ≤ 3 := by
  have h60 := toNat_and_le c.romBank 0x60
  have h1F := toNat_and_le c.romBank 0x1F
  have hv3 := toNat_and_le v 0x03
  have hv1F := toNat_and_le v 0x1F
  unfold mbc1Control
  split
  · exact ⟨hlow, hrom, hram⟩
  · split
    · obtain ⟨h1, h2⟩ := mbc1Bump_legal (b := (c.romBank &&& 0x60) ||| (v &&& 0x1F)) (by
        rw [BitVec.toNat_or]
        exact Nat.or_lt_two_pow (n := 7) (Nat.lt_of_le_of_lt h60 (by decide)) (Nat.lt_of_le_of_lt hv1F (by decide)))
      exact ⟨h1, h2, hram⟩
    · split
      · split
        · exact ⟨hlow, hrom, hv3⟩
        · obtain ⟨h1, h2⟩ := mbc1Bump_legal (b := ((v &&& 0x03) <<< 5) ||| (c.romBank &&& 0x1F)) (by
            rw [BitVec.toNat_or]
            refine Nat.or_lt_two_pow (n := 7) ?_ (Nat.lt_of_le_of_lt h1F (by decide))
            have : (v &&& 0x03).toNat ≤ 3 := hv3
            rw [BitVec.toNat_shiftLeft, Nat.shiftLeft_eq]
            omega)
          exact ⟨h1, h2, hram⟩
      · split
        · refine ⟨?_, Nat.lt_of_le_of_lt h1F (by decide), hram⟩
          show c.romBank &&& 0x1F &&& 0x1F ≠ 0
          rwa [BitVec.and_assoc, BitVec.and_self]
        · exact ⟨hlow, hrom, Nat.zero_le 3⟩

/-- 20 R155 to R169: the control writes of every controller keep the bank numbers legal. -/
theorem cartControl_banks {c : Cart} (n : Nat) (v : Byte) (h : banksWf c) : banksWf (cartControl c n v) := by
  obtain ⟨-, -, hk, -⟩ := cartControl_keeps c n v
  unfold banksWf at h ⊢
  rw [hk]
  unfold cartControl
  cases hm : c.mbc with
  | romOnly => simpa only [hm] using h
  | mbc1 =>
    simp only [hm] at h ⊢
    exact mbc1Control_banks n v h.1 h.2.1 h.2.2
  | mbc2 =>
    simp only [hm] at h ⊢
    unfold mbc2Control
    have hz := zeroSkip_le (n := 0x0F) (by decide) (toNat_and_le v 0x0F)
    split
    · split <;> exact h
    · split
      · split
        · exact ⟨zeroSkip_pos _, hz⟩
        · exact h
      · exact h
  | mbc3 =>
    simp only [hm] at h ⊢
    unfold mbc3Control
    have hz := zeroSkip_le (n := 0x7F) (by decide) (toNat_and_le v 0x7F)
    split
    · exact h
    · split
      · exact ⟨zeroSkip_pos _, hz⟩
      · split
        · exact h
        · split
          · exact h
          · split <;> exact h
  | mbc5 =>
    simp only [hm] at h ⊢
    unfold mbc5Control
    split
    · exact h
    · split
      · exact h
      · split
        · exact toNat_and_le v 0x0F
        · exact h

/-- A control write changes no RAM, and the RTC registers at most by the latch's copy (20 R155, R167). -/
theorem cartControl_memories (c : Cart) (n : Nat) (v : Byte) :
    (cartControl c n v).ram = c.ram ∧ (cartControl c n v).mbc2Ram = c.mbc2Ram ∧
    (cartControl c n v).rtcLatched = c.rtcLatched ∧
    ((cartControl c n v).rtcLive = c.rtcLive ∨ (cartControl c n v).rtcLive = c.rtcLatched) := by
  unfold cartControl mbc1Control mbc2Control mbc3Control mbc5Control
  (repeat' split) <;> simp

theorem cartControl_wf {c : Cart} (n : Nat) (v : Byte) (h : CartWf c) : CartWf (cartControl c n v) := by
  obtain ⟨hrom, hlen, -, -⟩ := cartControl_keeps c n v
  obtain ⟨hram, hmbc2, hlat, hlive⟩ := cartControl_memories c n v
  refine ⟨?_, ?_, ?_, ?_, ?_, ?_, cartControl_banks n v h.banks⟩
  · rw [hrom, hlen]; exact h.rom
  · rw [hram]; exact h.ram
  · rw [hmbc2]; exact h.mbc2Ram
  · rw [hmbc2]; exact h.nibbles
  · obtain e | e := hlive
    · rw [e]; exact h.rtcLive
    · rw [e]; exact h.rtcLatched
  · rw [hlat]; exact h.rtcLatched

/-! ## The APU (62 R702, R703) -/

theorem Apu.triggered_kind (a : Apu) (rate : Nat) (n : Chan) : (a.triggered rate n).kind = (a.chan n).kind := by
  cases n <;> rfl

theorem ApuWf.trigger {a : Apu} (rate : Nat) (n : Chan) (h : ApuWf a) : ApuWf (a.trigger rate n) := by
  obtain ⟨hw, hr, k1, k2, k3, k4⟩ := h
  cases n with
  | one => exact ⟨hw, hr, (a.triggered_kind rate .one).trans k1, k2, k3, k4⟩
  | two => exact ⟨hw, hr, k1, (a.triggered_kind rate .two).trans k2, k3, k4⟩
  | three => exact ⟨hw, hr, k1, k2, (a.triggered_kind rate .three).trans k3, k4⟩
  | four => exact ⟨hw, hr, k1, k2, k3, (a.triggered_kind rate .four).trans k4⟩

theorem ApuWf.write {a : Apu} {p : Byte} (v : Byte) (hp : p ≤ 0x26) (h : ApuWf a) : ApuWf (a.write p v) := by
  have hs : ApuWf { a with regs := a.regs.set p.toNat v } :=
    { h with regs := arrayWf_set v (Nat.lt_succ_of_le (BitVec.le_def.mp hp)) h.regs }
  unfold Apu.write Apu.writeAt
  dsimp only
  split
  · split
    · exact hs.trigger _ _
    · exact hs
  · exact hs

/-! ## The timer (60 R520, R522, 20 R131) -/

theorem timerPeriod_bounds (tac : BitVec 3) : 0 < timerPeriod tac ∧ timerPeriod tac ≤ 1024 := by
  revert tac; decide

theorem writeTac_wf {t : Timer} (v : Byte) (h : TimerWf t) : TimerWf (writeTac v t) := by
  have hc : ∀ b k, tacCounter b k ≤ k := by
    intro b k
    cases k with
    | zero => exact Nat.le_refl 0
    | succ k => rw [tacCounter]; split <;> omega
  exact { h with timerCounter := Nat.lt_of_le_of_lt (hc _ _) h.timerCounter }

theorem timaStep_timerCounter (c : Nat) {s : State} (h : s.timer.timerCounter < 1024) :
    (timaStep c s).timer.timerCounter < 1024 := by
  obtain ⟨hp, hp'⟩ := timerPeriod_bounds s.timer.tac
  unfold timaStep
  split
  · rw [timaTicks_eq]
    exact Nat.lt_of_lt_of_le (Nat.mod_lt _ hp) hp'
  · exact h

theorem timerStep_body (c : Nat) {s : State} (h : BodyInv s) : BodyInv (timerStep c s) := by
  rw [timerStep_eq]
  have hc := timaStep_timerCounter c (s := { s with timer := divStep c s.timer }) h.timer.timerCounter
  exact { h with timer := ⟨Nat.mod_lt _ (by decide), hc⟩ }

/-! ## The bus (20 R105, R115, R140 to R144) -/

theorem vramBank_le (s : State) : vramBank s ≤ 1 := by unfold vramBank; split <;> omega

theorem wramBank_le (s : State) : wramBank s ≤ 7 := by
  unfold wramBank
  have := s.svbk.isLt
  split
  · split <;> omega
  · omega

theorem vramIndex_lt (s : State) {n : Nat} (h : n < 0xA000) : vramIndex s n < 0x4000 := by
  have := vramBank_le s
  unfold vramIndex
  omega

theorem wramIndex_lt (s : State) {n : Nat} (h : n < 0xE000) : wramIndex s n < 0x8000 := by
  have := wramBank_le s
  unfold wramIndex
  split <;> omega

/-- A read takes at most a draw (20 R106). -/
theorem busRead_eq_draws (a : Word) (s : State) : ∃ d, (busRead a s).state = { s with draws := d } := by
  cases h : peek a s with
  | ok r => rw [busRead_of_peek h, Res.state_ok, afterRead_eq]; exact ⟨_, rfl⟩
  | error e => rw [busRead_of_error h]; exact ⟨_, rfl⟩

theorem busRead_body (a : Word) {s : State} (h : BodyInv s) : BodyInv (busRead a s).state := by
  obtain ⟨d, e⟩ := busRead_eq_draws a s
  rw [e]
  exact { h with }

/-- 20 R140: OAM DMA writes indexes below `i + n`. -/
theorem oamDma_body (v : Byte) (n i : Nat) {s : State} (hi : i + n ≤ 160) (h : BodyInv s) :
    BodyInv (oamDma v i n s).state := by
  induction n generalizing i s with
  | zero => exact h
  | succ n ih =>
    refine Res.state_bind (busRead_body _ h) fun b t _ ht => ih (i + 1) (by omega) ?_
    exact { ht with ppu := { ht.ppu with oam := arrayWf_set b (by omega) ht.ppu.oam } }

/-- A destination taken within the VRAM bank (log 15) is one of VRAM's addresses. -/
theorem vramAddress_bounds (w : Word) :
    0x8000 ≤ (0x8000 ||| (w &&& 0x1FFF)).toNat ∧ (0x8000 ||| (w &&& 0x1FFF)).toNat < 0xA000 := by
  have hw : (w &&& 0x1FFF).toNat ≤ 0x1FFF := toNat_and_le w 0x1FFF
  have e : (0x8000 ||| (w &&& 0x1FFF)).toNat = 0x8000 + (w &&& 0x1FFF).toNat := toNat_or_of_lt (i := 15) rfl (by omega)
  omega

theorem copyByte_body {s : State} (h : BodyInv s) : BodyInv (copyByte s).state := by
  refine Res.state_then (busRead_body _ h) fun b t _ ht => ?_
  have hi : vramBank t * 0x2000 + (t.hdma.dst &&& 0x1FFF).toNat < 0x4000 := by
    have h1 := vramBank_le t
    have h2 : (t.hdma.dst &&& 0x1FFF).toNat ≤ 0x1FFF := toNat_and_le _ _
    omega
  exact { ht with
    ppu := { ht.ppu with vram := arrayWf_set b hi ht.ppu.vram }
    hdma := { ht.hdma with dst := vramAddress_bounds _ } }

theorem copyBytes_body (n : Nat) {s : State} (h : BodyInv s) : BodyInv (copyBytes n s).state := by
  induction n generalizing s with
  | zero => exact h
  | succ n ih => exact Res.state_bind (copyByte_body h) fun _ t _ ht => ih ht

theorem writeHdma5_body (v : Byte) {s : State} (hc : s.cgbMode ≠ false) (h : BodyInv s) :
    BodyInv (writeHdma5 v s).state := by
  have hlen := (v.extractLsb' 0 7).isLt
  unfold writeHdma5
  refine Res.state_ite (fun _ => ?_) fun _ => Res.state_ite (fun _ => ?_) fun _ => ?_
  · exact { h with hdma := { h.hdma with active := nofun }, dmg := fun e => absurd e hc }
  · refine Res.state_then (copyBytes_body _ h) fun _ t _ ht => ?_
    exact { ht with
      hdma := { ht.hdma with remaining := Nat.zero_le _, active := nofun }
      dmg := fun e =>
        have ⟨h1, h2, h3, h4, _⟩ := ht.dmg e
        ⟨h1, h2, h3, h4, rfl⟩ }
  · exact { h with
      hdma := { h.hdma with remaining := Nat.succ_le_of_lt hlen, active := fun _ => Nat.succ_pos _ }
      dmg := fun e => absurd e hc }

theorem writeCgbIo_body (p v : Byte) {s : State} (h : BodyInv s) : BodyInv (writeCgbIo p v s).state := by
  unfold writeCgbIo
  refine Res.state_ite (fun _ => h) fun hc => ?_
  have hcgb : ∀ {q : Prop}, s.cgbMode = false → q := fun e => absurd e hc
  refine Res.state_ite (fun _ => { h with dmg := hcgb }) fun _ =>
    Res.state_ite (fun _ => { h with ppu := { h.ppu with }, dmg := hcgb }) fun _ =>
    Res.state_ite (fun _ => { h with hdma := { h.hdma with } }) fun _ =>
    Res.state_ite (fun _ => { h with hdma := { h.hdma with } }) fun _ =>
    Res.state_ite (fun _ => { h with hdma := { h.hdma with dst := ?_ } }) fun _ =>
    Res.state_ite (fun _ => { h with hdma := { h.hdma with dst := ?_ } }) fun _ =>
    Res.state_ite (fun _ => writeHdma5_body v hc h) fun _ =>
    Res.state_ite (fun _ => { h with ppu := { h.ppu with } }) fun _ =>
    Res.state_ite (fun _ => { h with ppu := { h.ppu with bgPal := arrayWf_set v (BitVec.isLt _) h.ppu.bgPal } }) fun _ =>
    Res.state_ite (fun _ => { h with ppu := { h.ppu with } }) fun _ =>
    Res.state_ite (fun _ => { h with ppu := { h.ppu with objPal := arrayWf_set v (BitVec.isLt _) h.ppu.objPal } }) fun _ =>
    Res.state_ite (fun _ => { h with dmg := hcgb }) fun _ => h
  · have hv : (v &&& 0x1F).toNat ≤ 0x1F := toNat_and_le v 0x1F
    have hb : (0x80 ||| (v &&& 0x1F)).toNat = 0x80 + (v &&& 0x1F).toNat := toNat_or_of_lt (i := 7) rfl (by omega)
    have hw := mkWord_toNat (0x80 ||| (v &&& 0x1F)) (loByte s.hdma.dst)
    have := (loByte s.hdma.dst).isLt
    rw [hb] at hw
    show _ ≤ (mkWord _ _).toNat ∧ (mkWord _ _).toNat < _
    omega
  · obtain ⟨h1, h2⟩ := h.hdma.dst
    have hw := mkWord_toNat (hiByte s.hdma.dst) (v &&& 0xF0)
    have := (v &&& 0xF0).isLt
    rw [hiByte_toNat] at hw
    show _ ≤ (mkWord _ _).toNat ∧ (mkWord _ _).toNat < _
    omega

theorem writeIo_body (p v : Byte) {s : State} (h : BodyInv s) : BodyInv (writeIo p v s).state := by
  unfold writeIo
  refine Res.state_ite (fun _ => { h with }) fun _ =>
    Res.state_ite (fun _ => { h with timer := { h.timer with divAcc := Nat.zero_lt_succ 254 } }) fun _ =>
    Res.state_ite (fun _ => { h with timer := { h.timer with } }) fun _ =>
    Res.state_ite (fun _ => { h with timer := { h.timer with } }) fun _ =>
    Res.state_ite (fun _ => { h with timer := writeTac_wf v h.timer }) fun _ =>
    Res.state_ite (fun _ => { h with }) fun _ =>
    Res.state_ite (fun hp => { h with apu := h.apu.write v hp.2 }) fun _ =>
    Res.state_ite (fun hp => { h with apu := { h.apu with wave := arrayWf_set v ?_ h.apu.wave } }) fun _ =>
    Res.state_ite (fun _ => { h with ppu := { h.ppu with } }) fun _ =>
    Res.state_ite (fun _ => { h with ppu := { h.ppu with } }) fun _ =>
    Res.state_ite (fun _ => { h with ppu := { h.ppu with } }) fun _ =>
    Res.state_ite (fun _ => { h with ppu := { h.ppu with } }) fun _ =>
    Res.state_ite (fun _ => { h with ppu := { h.ppu with } }) fun _ =>
    Res.state_ite (fun _ => oamDma_body v 160 0 (by decide) h) fun _ =>
    Res.state_ite (fun _ => { h with ppu := { h.ppu with } }) fun _ =>
    Res.state_ite (fun _ => { h with ppu := { h.ppu with } }) fun _ =>
    Res.state_ite (fun _ => { h with ppu := { h.ppu with } }) fun _ =>
    Res.state_ite (fun _ => { h with ppu := { h.ppu with } }) fun _ =>
    Res.state_ite (fun _ => { h with ppu := { h.ppu with } }) fun _ => writeCgbIo_body p v h
  have h2 : p.toNat ≤ 0x3F := BitVec.le_def.mp hp.2
  omega

theorem writeCart_body {n : Nat} (v : Byte) {s : State} (hn : n < 0xC000) (h : BodyInv s) :
    BodyInv (writeCart n v s).state := by
  unfold writeCart
  cases hd : writeCartRam s.cart n v with
  | ok d => exact { h with cart := writeCartRam_wf h.cart hn hd }
  | error e => exact h

/-- Every bus write keeps the invariant's body, whether it faults or not. -/
theorem busWrite_body (a : Word) (v : Byte) {s : State} (h : BodyInv s) : BodyInv (busWrite a v s).state := by
  unfold busWrite
  refine Res.state_ite (fun _ => { h with cart := cartControl_wf _ v h.cart }) fun _ =>
    Res.state_ite (fun hn => { h with ppu := { h.ppu with vram := arrayWf_set v (vramIndex_lt s hn) h.ppu.vram } }) fun _ =>
    Res.state_ite (fun hn => writeCart_body v hn h) fun _ =>
    Res.state_ite (fun hn => { h with wram := arrayWf_set v (wramIndex_lt s hn) h.wram }) fun _ =>
    Res.state_ite (fun hn => { h with wram := arrayWf_set v (wramIndex_lt s (by omega)) h.wram }) fun _ =>
    Res.state_ite (fun hn => { h with ppu := { h.ppu with oam := arrayWf_set v (by omega) h.ppu.oam } }) fun _ =>
    Res.state_ite (fun _ => h) fun _ => Res.state_ite (fun _ => writeIo_body _ v h) fun _ =>
    Res.state_ite (fun hn => { h with hram := arrayWf_set v (by omega) h.hram }) fun _ => { h with }

/-! ## The PPU (61 R601 to R603, R610) -/

theorem nextLine_prepared (s : State) :
    (nextLine s).ppu.prepared = s.ppu.screen ∨ (nextLine s).ppu.prepared = s.ppu.prepared := by
  unfold nextLine
  generalize (if s.ppu.ly + 1 = 154 then 0 else s.ppu.ly + 1 : Byte) = ly
  dsimp only
  split
  · exact .inl rfl
  · exact .inr rfl

theorem nextLines_ppuWf (n : Nat) {s : State} (h : PpuWf s.ppu) : PpuWf (nextLines n s).ppu := by
  induction n generalizing s with
  | zero => exact h
  | succ n ih =>
    refine ih ?_
    have hp : Frame.wfFrom 0 (nextLine s).ppu.prepared = true := by
      obtain e | e := nextLine_prepared s
      · rw [e]; exact h.screen
      · rw [e]; exact h.prepared
    rw [nextLine_eq]
    exact { h with ly := nextLine_ly s h.ly, prepared := hp }

theorem advanceDot_ppuWf {spd : Nat} (c : Nat) {s : State} (hspd : spd = 1 ∨ spd = 2) (h : PpuWf s.ppu) :
    PpuWf (advanceDot spd c s).ppu := by
  refine nextLines_ppuWf _ { h with dot := ?_ }
  show _ % (456 * spd) < 912
  exact Nat.lt_of_lt_of_le (Nat.mod_lt _ (by omega)) (by omega)

theorem renderLine_ppuWf (cgb : Bool) {ly : Nat} {p : Ppu} (hly : ly < 144) (h : PpuWf p) :
    PpuWf (renderLine cgb ly p) :=
  { h with
    screen := Frame.wfFrom_setRow _ (Nat.zero_le _) hly (by rw [List.length_map, List.length_range]) h.screen
    bgIndex := by rw [renderLine, List.length_map, List.length_range]; rfl
    bgAttrPrio := by rw [renderLine, List.length_map, List.length_range]; rfl }

/-- A change of the PPU and of IF. -/
theorem BodyInv.withPpu {s : State} {p : Ppu} (r : BitVec 5) (h : BodyInv s) (hp : PpuWf p)
    (hvb : 144 ≤ p.ly.toNat → p.mode = 1) (hvbk : p.vbk = s.ppu.vbk) : BodyInv { s with ppu := p, ifr := r } :=
  { h with
    ppu := hp
    vblank := hvb
    dmg := fun e =>
      have ⟨h1, h2, h3, h4, h5⟩ := h.dmg e
      ⟨h1, h2, hvbk.trans h3, h4, h5⟩ }

/-- 20 R144: the block keeps LY, and the invariant's body. -/
theorem hdmaHblankBlock_body {s : State} (h : BodyInv s) :
    BodyInv (hdmaHblankBlock s).state ∧ (hdmaHblankBlock s).state.ppu.ly = s.ppu.ly := by
  unfold hdmaHblankBlock
  split
  · next ha =>
    obtain ⟨m, d, a, b, e⟩ := copyBytes_state 16 s
    have hb := copyBytes_body 16 h
    cases hc : copyBytes 16 s with
    | stop r t => rw [hc] at e hb; exact ⟨hb, congrArg (·.ppu.ly) e⟩
    | ok x t =>
      rw [hc] at e hb
      have hact : t.hdma.active = true := (congrArg (·.hdma.active) e).trans ha
      have hrem := hb.hdma.remaining
      refine ⟨{ hb with hdma := { hb.hdma with remaining := ?_, active := ?_ }, dmg := ?_ }, congrArg (·.ppu.ly) e⟩
      · show t.hdma.remaining - 1 ≤ 128
        have : t.hdma.remaining ≤ 128 := hrem
        omega
      · show decide (t.hdma.remaining - 1 ≠ 0) = true → 1 ≤ t.hdma.remaining - 1
        intro hd
        have := of_decide_eq_true hd
        omega
      · intro hcgb
        obtain ⟨-, -, -, -, h5⟩ := hb.dmg hcgb
        exact absurd (hact.symm.trans h5) (by decide)
  · exact ⟨h, rfl⟩

/-- Entering a mode on a visible line. -/
theorem enterMode_body (m : BitVec 2) {s : State} (hly : s.ppu.ly.toNat < 144) (h : BodyInv s) :
    BodyInv (enterMode m s).state := by
  have hdraw : ∀ t, t = (if m = 3 then { s with ppu := renderLine s.cgbMode s.ppu.ly.toNat s.ppu } else s) →
      BodyInv t ∧ t.ppu.ly = s.ppu.ly := by
    rintro t rfl
    split
    · exact ⟨h.withPpu s.ifr (renderLine_ppuWf _ hly h.ppu) h.vblank rfl, rfl⟩
    · exact ⟨h, rfl⟩
  unfold enterMode
  dsimp only
  obtain ⟨ht, hty⟩ := hdraw _ rfl
  revert ht hty
  generalize (if m = 3 then { s with ppu := renderLine s.cgbMode s.ppu.ly.toNat s.ppu } else s) = t
  intro ht hty
  refine (Res.state_then (P := fun u => BodyInv u ∧ u.ppu.ly = s.ppu.ly) ?_ ?_).1
  · refine Res.state_ite (P := fun u => BodyInv u ∧ u.ppu.ly = s.ppu.ly) (fun _ => ?_) fun _ => ⟨ht, hty⟩
    obtain ⟨hb, hy⟩ := hdmaHblankBlock_body ht
    exact ⟨hb, hy.trans hty⟩
  · rintro _ u _ ⟨hu, huy⟩
    have hvb : 144 ≤ u.ppu.ly.toNat → m = 1 := by rw [huy]; omega
    dsimp only
    split
    · exact ⟨hu.withPpu _ { hu.ppu with } hvb rfl, huy⟩
    · exact ⟨hu.withPpu u.ifr { hu.ppu with } hvb rfl, huy⟩

/-- Entering V-blank draws and copies nothing. -/
theorem enterMode_one (s : State) :
    ∃ r, enterMode 1 s = .ok () { s with ppu := { s.ppu with mode := 1 }, ifr := r } := by
  unfold enterMode
  simp only [show (1 : BitVec 2) ≠ 3 by decide, show (1 : BitVec 2) ≠ 0 by decide, if_false, Res.then_ok]
  split
  · exact ⟨_, rfl⟩
  · exact ⟨s.ifr, rfl⟩

theorem compareLyc_body {s : State} (h : BodyInv s) : BodyInv (compareLyc s) := by
  unfold compareLyc
  dsimp only
  split
  · exact h.withPpu _ { h.ppu with } h.vblank rfl
  · exact h.withPpu s.ifr { h.ppu with } h.vblank rfl

theorem modeAt_vblank (spd : Nat) {ly : Byte} (dot : Nat) (h : 144 ≤ ly.toNat) : modeAt spd ly dot = 1 :=
  if_pos (show (144 : Byte) ≤ ly from BitVec.le_def.mpr h)

theorem ppuStep_body {spd : Nat} (c : Nat) {s : State} (hspd : spd = 1 ∨ spd = 2) (h : BodyInv s) :
    BodyInv (ppuStep spd c s).state := by
  unfold ppuStep
  refine Res.state_ite (fun _ => ?_) fun _ => ?_
  · have hp := advanceDot_ppuWf c hspd h.ppu
    have hadv : ∀ p : Ppu, PpuWf p → (144 ≤ p.ly.toNat → p.mode = 1) → p.vbk = s.ppu.vbk → ∀ r,
        BodyInv { advanceDot spd c s with ppu := p, ifr := r } := by
      intro p hp hvb hvbk r
      rw [advanceDot_eq]
      exact h.withPpu r hp hvb hvbk
    have hvbk : (advanceDot spd c s).ppu.vbk = s.ppu.vbk := by rw [advanceDot_eq]
    dsimp only
    revert hp hadv hvbk
    generalize advanceDot spd c s = t
    intro hp hadv hvbk
    refine Res.state_then ?_ fun _ u _ hu => compareLyc_body hu
    by_cases hly : t.ppu.ly.toNat < 144
    · have ht : BodyInv t := hadv t.ppu hp (fun hge => absurd hge (by omega)) hvbk t.ifr
      exact Res.state_ite (fun _ => enterMode_body _ hly ht) fun _ => ht
    · rw [modeAt_vblank spd t.ppu.dot (by omega)]
      refine Res.state_ite (fun _ => ?_) fun hm => hadv t.ppu hp (fun _ => (not_not.mp hm).symm) hvbk t.ifr
      obtain ⟨r, e⟩ := enterMode_one t
      rw [e]
      exact hadv { t.ppu with mode := 1 } { hp with } (fun _ => rfl) hvbk r
  · exact h.withPpu s.ifr { h.ppu with ly := Nat.zero_le 153, dot := Nat.zero_lt_succ 911 }
      (fun hge => absurd hge (show ¬144 ≤ 0 by decide)) rfl

/-! ## The step (O11) -/

theorem stepInvariant_bodyInv : StepInvariant BodyInv where
  core _ _ _ _ _ _ h := { h with }
  speed _ hc h := { h with dmg := fun e => absurd (hc.symm.trans e) (by decide) }
  read a _ h := busRead_body a h
  write a v _ h := busWrite_body a v h
  ppu _ c _ hspd h := ppuStep_body c hspd h
  timer c _ h := timerStep_body c h

theorem callTo_enabling (a : Word) (s : State) : (callTo a s).state.cpu.enabling = s.cpu.enabling := by
  have hw : ∀ b v (t : State), (busWrite b v t).state.cpu.enabling = t.cpu.enabling :=
    fun b v t => congrArg (·.enabling) (busWrite_keeps b v t).cpu
  refine Res.state_then (P := fun u => u.cpu.enabling = s.cpu.enabling) ?_ fun _ _ _ h => h
  exact Res.state_bind (P := fun u => u.cpu.enabling = s.cpu.enabling) (hw _ _ _) fun _ t _ ht => (hw _ _ _).trans ht

/-- 60 R513: the interrupt service leaves the EI flag clear. -/
theorem interruptService_enabling {s t : State} {x : Nat} (h : interruptService s = .ok x t) :
    t.cpu.enabling = false := by
  unfold interruptService at h
  split at h
  · cases h; rfl
  · next he =>
    have he : s.cpu.enabling = false := by simpa using he
    split at h
    · cases h; exact he
    · split at h
      · obtain ⟨_, u, hu, ht⟩ := Res.bind_eq_ok.mp h
        have hc := callTo_enabling (vectorOf (lowestBit (pending s))) (acceptInterrupt (lowestBit (pending s)) s)
        rw [show callTo _ _ = _ from hu] at hc
        cases ht
        exact hc.trans he
      · split at h <;> cases h <;> exact he

theorem finishStep_enabling {spd : Nat} {s t : State} (h : finishStep spd s = .ok () t) : t.cpu.enabling = false := by
  obtain ⟨_, u, -, h⟩ := Res.bind_eq_ok.mp h
  obtain ⟨x, v, hv, h⟩ := Res.bind_eq_ok.mp h
  have he := interruptService_enabling hv
  cases h
  exact he

theorem Res.ok_of_outcome {x : Res Unit} {t : State} (h : x.outcome = .next t) (ht : t.fault = none) :
    x = .ok () t := by
  cases x with
  | ok a u => cases h; rfl
  | stop r u => cases h; cases ht

/-- 60 R513: a completed step leaves the EI flag clear, whatever state it began in. -/
theorem step_enabling {s t : State} (h : step s = .next t) (ht : t.fault = none) : t.cpu.enabling = false := by
  cases (step_ends h).2 with
  | idle _ h => exact finishStep_enabling (Res.ok_of_outcome h ht)
  | fetchFault _ r u _ e => subst e; cases ht
  | execFault _ i u _ _ hf => exact absurd ht hf
  | ran _ i u v _ _ _ h => exact finishStep_enabling (Res.ok_of_outcome h ht)

/-- Settles O11: every part of a step keeps the invariant's body, and a completed step clears the EI flag. -/
theorem invKeptByEveryStep : Obligations.InvKeptByEveryStep := fun _ _ hs h =>
  inv_iff.mpr ⟨stepInvariant_bodyInv.of_step h (inv_iff.mp hs).1, step_enabling h⟩

end Sys2Proof.Machine
end

section
/-! PROOF. The bus region by region (20 R103, R105): what a read finds and what a write does in each, one equation per
region, so that no later proof opens `peek` or `busWrite`. -/

namespace Sys2Proof.Machine

/-! ## Reads and writes by region -/

section Regions

variable {a : Word} {s : State}

theorem peek_rom (h : a.toNat < 0x8000) : peek a s = peekRom s.cart a.toNat := if_pos h

theorem peek_vram (h : 0x8000 ≤ a.toNat ∧ a.toNat < 0xA000) :
    peek a s = .ok (.stored (s.ppu.vram.get (vramIndex s a.toNat))) := by
  simp (disch := omega) only [peek, if_pos, if_neg]

theorem peek_cartRam (h : 0xA000 ≤ a.toNat ∧ a.toNat < 0xC000) : peek a s = peekCartRam s.cart a.toNat := by
  simp (disch := omega) only [peek, if_pos, if_neg]

theorem peek_wram (h : 0xC000 ≤ a.toNat ∧ a.toNat < 0xE000) :
    peek a s = .ok (.stored (s.wram.get (wramIndex s a.toNat))) := by
  simp (disch := omega) only [peek, if_pos, if_neg]

theorem peek_echo (h : 0xE000 ≤ a.toNat ∧ a.toNat < 0xFE00) :
    peek a s = .ok (.stored (s.wram.get (wramIndex s (a.toNat - 0x2000)))) := by
  simp (disch := omega) only [peek, if_pos, if_neg]

theorem peek_oam (h : 0xFE00 ≤ a.toNat ∧ a.toNat < 0xFEA0) :
    peek a s = .ok (.stored (s.ppu.oam.get (a.toNat - 0xFE00))) := by
  simp (disch := omega) only [peek, if_pos, if_neg]

theorem peek_unusable (h : 0xFEA0 ≤ a.toNat ∧ a.toNat < 0xFF00) : peek a s = .ok .floating := by
  simp (disch := omega) only [peek, if_pos, if_neg]

theorem peek_io (h : 0xFF00 ≤ a.toNat ∧ a.toNat < 0xFF80) : peek a s = .ok (peekIo (loByte a) s) := by
  simp (disch := omega) only [peek, if_pos, if_neg]

theorem peek_hram (h : 0xFF80 ≤ a.toNat ∧ a.toNat < 0xFFFF) :
    peek a s = .ok (.stored (s.hram.get (a.toNat - 0xFF80))) := by
  simp (disch := omega) only [peek, if_pos, if_neg]

theorem peek_ie (h : a.toNat = 0xFFFF) : peek a s = .ok (.stored s.ie) := by
  simp (disch := omega) only [peek, if_neg]

variable {v : Byte}

theorem busWrite_rom (h : a.toNat < 0x8000) :
    busWrite a v s = .ok () { s with cart := cartControl s.cart a.toNat v } := if_pos h

theorem busWrite_vram (h : 0x8000 ≤ a.toNat ∧ a.toNat < 0xA000) :
    busWrite a v s = .ok () { s with ppu.vram := s.ppu.vram.set (vramIndex s a.toNat) v } := by
  simp (disch := omega) only [busWrite, if_pos, if_neg]

theorem busWrite_cartRam (h : 0xA000 ≤ a.toNat ∧ a.toNat < 0xC000) : busWrite a v s = writeCart a.toNat v s := by
  simp (disch := omega) only [busWrite, if_pos, if_neg]

theorem busWrite_wram (h : 0xC000 ≤ a.toNat ∧ a.toNat < 0xE000) :
    busWrite a v s = .ok () { s with wram := s.wram.set (wramIndex s a.toNat) v } := by
  simp (disch := omega) only [busWrite, if_pos, if_neg]

theorem busWrite_echo (h : 0xE000 ≤ a.toNat ∧ a.toNat < 0xFE00) :
    busWrite a v s = .ok () { s with wram := s.wram.set (wramIndex s (a.toNat - 0x2000)) v } := by
  simp (disch := omega) only [busWrite, if_pos, if_neg]

theorem busWrite_oam (h : 0xFE00 ≤ a.toNat ∧ a.toNat < 0xFEA0) :
    busWrite a v s = .ok () { s with ppu.oam := s.ppu.oam.set (a.toNat - 0xFE00) v } := by
  simp (disch := omega) only [busWrite, if_pos, if_neg]

theorem busWrite_unusable (h : 0xFEA0 ≤ a.toNat ∧ a.toNat < 0xFF00) : busWrite a v s = .ok () s := by
  simp (disch := omega) only [busWrite, if_pos, if_neg]

theorem busWrite_io (h : 0xFF00 ≤ a.toNat ∧ a.toNat < 0xFF80) : busWrite a v s = writeIo (loByte a) v s := by
  simp (disch := omega) only [busWrite, if_pos, if_neg]

theorem busWrite_hram (h : 0xFF80 ≤ a.toNat ∧ a.toNat < 0xFFFF) :
    busWrite a v s = .ok () { s with hram := s.hram.set (a.toNat - 0xFF80) v } := by
  simp (disch := omega) only [busWrite, if_pos, if_neg]

theorem busWrite_ie (h : a.toNat = 0xFFFF) : busWrite a v s = .ok () { s with ie := v } := by
  simp (disch := omega) only [busWrite, if_neg]

/-! The RAM window, once the controller's target is known. -/

theorem busWrite_of_writeCartRam {c : Cart} (h : 0xA000 ≤ a.toNat ∧ a.toNat < 0xC000)
    (hc : writeCartRam s.cart a.toNat v = .ok c) : busWrite a v s = .ok () { s with cart := c } := by
  rw [busWrite_cartRam h, writeCart, hc]

theorem busWrite_of_writeCartRam_error {e : Fault} (h : 0xA000 ≤ a.toNat ∧ a.toNat < 0xC000)
    (hc : writeCartRam s.cart a.toNat v = .error e) : busWrite a v s = .stop e s := by
  rw [busWrite_cartRam h, writeCart, hc]

/-! ## WRAM's banks and the echo (20 R111) -/

theorem wramIndex_low {n : Nat} (h : n < 0xD000) : wramIndex s n = n - 0xC000 := if_pos h

theorem wramIndex_high {n : Nat} (h : 0xD000 ≤ n) : wramIndex s n = wramBank s * 0x1000 + (n - 0xD000) :=
  if_neg (by omega)

theorem toNat_sub_0x2000 (h : 0x2000 ≤ a.toNat) : (a - 0x2000).toNat = a.toNat - 0x2000 :=
  BitVec.toNat_sub_of_le (BitVec.le_def.mpr h)

theorem peek_echo_eq (h : 0xE000 ≤ a.toNat ∧ a.toNat < 0xFE00) : peek a s = peek (a - 0x2000) s := by
  have e : (a - 0x2000).toNat = a.toNat - 0x2000 := toNat_sub_0x2000 (by omega)
  rw [peek_echo h, peek_wram (by omega), e]

theorem busWrite_echo_eq (h : 0xE000 ≤ a.toNat ∧ a.toNat < 0xFE00) : busWrite a v s = busWrite (a - 0x2000) v s := by
  have e : (a - 0x2000).toNat = a.toNat - 0x2000 := toNat_sub_0x2000 (by omega)
  rw [busWrite_echo h, busWrite_wram (by omega), e]

end Regions

/-! ## The maps (O16, O17, O28) -/

/-- Settles O16: the map by the equations of the regions, and a read changes at most the count of draws, on which no
read depends. -/
theorem readMap : Obligations.ReadMap := by
  intro a s
  refine ⟨peek_rom, peek_vram, peek_cartRam, fun h => ?_, fun h => ?_, peek_echo_eq, peek_oam, peek_unusable, peek_io,
    peek_hram, peek_ie, fun _ => busRead_of_peek, fun _ => busRead_of_error, fun r b => peek_afterRead b r s⟩
  · rw [peek_wram ⟨h.1, by omega⟩, wramIndex_low h.2]; rfl
  · rw [peek_wram ⟨by omega, h.2⟩, wramIndex_high h.1]; rfl

/-- Settles O17: the map by the equations of the regions; no control write touches the ROM. -/
theorem writeMap : Obligations.WriteMap := by
  intro a v s
  obtain ⟨hrom, hlen, -, -⟩ := cartControl_keeps s.cart a.toNat v
  refine ⟨fun h => ⟨busWrite_rom h, hrom, hlen⟩, busWrite_vram,
    fun h => ⟨fun _ => busWrite_of_writeCartRam h, fun _ => busWrite_of_writeCartRam_error h⟩,
    fun h => ?_, fun h => ?_, busWrite_echo_eq, busWrite_oam, busWrite_unusable, busWrite_io, busWrite_hram,
    busWrite_ie⟩
  · rw [busWrite_wram ⟨h.1, by omega⟩, wramIndex_low h.2]
  · rw [busWrite_wram ⟨by omega, h.2⟩, wramIndex_high h.1]

/-- Settles O28: the index is `romIndex`, and the read faults exactly at or past the ROM's length. -/
theorem romReads : Obligations.RomReads := by
  intro a s idx h hidx
  have hi : romIndex s.cart a.toNat = idx := hidx.symm
  have hp : peek a s = if idx < s.cart.romLength then .ok (.stored (s.cart.rom.get idx))
      else .error (.romOutOfRange idx) := by
    rw [peek_rom h, peekRom, hi]
  refine ⟨fun hle => ?_, fun hlt => ?_⟩
  · exact busRead_of_error (hp.trans (if_neg (by omega)))
  · rw [busRead, hp.trans (if_pos hlt)]; rfl

end Sys2Proof.Machine
end

section
/-! PROOF. The cartridge (20 R154 to R169): each controller's control writes range by range, and the RAM window target
by target. -/

namespace Sys2Proof.Machine

/-! ## The control ranges -/

section Controls

variable {c : Cart} {n : Nat} {v : Byte}

theorem mbc1Control_ramEnable (h : n < 0x2000) :
    mbc1Control c n v = { c with ramEnabled := ramEnableOf c.ramEnabled v } := if_pos h

theorem mbc1Control_romBank (h : 0x2000 ≤ n ∧ n < 0x4000) :
    mbc1Control c n v = { c with romBank := mbc1Bump ((c.romBank &&& 0x60) ||| (v &&& 0x1F)) } := by
  simp (disch := omega) only [mbc1Control, if_pos, if_neg]

theorem mbc1Control_highBits (h : 0x4000 ≤ n ∧ n < 0x6000) (hm : c.mbc1RamMode = false) :
    mbc1Control c n v = { c with romBank := mbc1Bump (((v &&& 0x03) <<< 5) ||| (c.romBank &&& 0x1F)) } := by
  simp (disch := omega) only [mbc1Control, if_pos, if_neg, hm, Bool.false_eq_true, if_false]

theorem mbc1Control_ramBank (h : 0x4000 ≤ n ∧ n < 0x6000) (hm : c.mbc1RamMode = true) :
    mbc1Control c n v = { c with ramBank := v &&& 0x03 } := by
  simp (disch := omega) only [mbc1Control, if_pos, if_neg, hm, if_true]

theorem mbc1Control_romMode (h : 0x6000 ≤ n) (hv : v.getLsbD 0 = false) :
    mbc1Control c n v = { c with mbc1RamMode := false, ramBank := 0 } := by
  simp (disch := omega) only [mbc1Control, if_neg, bitOf, hv, Bool.false_eq_true, if_false]

theorem mbc1Control_ramMode (h : 0x6000 ≤ n) (hv : v.getLsbD 0 = true) :
    mbc1Control c n v = { c with mbc1RamMode := true, romBank := c.romBank &&& 0x1F } := by
  simp (disch := omega) only [mbc1Control, if_neg, bitOf, hv, if_true]

theorem mbc2Control_ramEnable (h : n < 0x2000) (hb : n.testBit 8 = false) :
    mbc2Control c n v = { c with ramEnabled := ramEnableOf c.ramEnabled v } := by
  simp (disch := omega) only [mbc2Control, if_pos, hb, Bool.false_eq_true, if_false]

theorem mbc2Control_romBank (h : 0x2000 ≤ n ∧ n < 0x4000) (hb : n.testBit 8 = true) :
    mbc2Control c n v = { c with romBank := zeroSkip (v &&& 0x0F) } := by
  simp (disch := omega) only [mbc2Control, if_pos, if_neg, hb, if_true]

theorem mbc2Control_low_ignored (h : n < 0x2000) (hb : n.testBit 8 = true) : mbc2Control c n v = c := by
  simp (disch := omega) only [mbc2Control, if_pos, hb, if_true]

theorem mbc2Control_middle_ignored (h : 0x2000 ≤ n ∧ n < 0x4000) (hb : n.testBit 8 = false) :
    mbc2Control c n v = c := by
  simp (disch := omega) only [mbc2Control, if_pos, if_neg, hb, Bool.false_eq_true, if_false]

theorem mbc2Control_high (h : 0x4000 ≤ n) : mbc2Control c n v = c := by
  simp (disch := omega) only [mbc2Control, if_neg]

theorem mbc3Control_ramEnable (h : n < 0x2000) :
    mbc3Control c n v = { c with ramEnabled := decide (v &&& 0x0A ≠ 0) } := if_pos h

theorem mbc3Control_romBank (h : 0x2000 ≤ n ∧ n < 0x4000) :
    mbc3Control c n v = { c with romBank := zeroSkip (v &&& 0x7F) } := by
  simp (disch := omega) only [mbc3Control, if_pos, if_neg]

theorem mbc3Control_ramBank (h : 0x4000 ≤ n ∧ n < 0x6000) : mbc3Control c n v = { c with ramBank := v } := by
  simp (disch := omega) only [mbc3Control, if_pos, if_neg]

theorem mbc3Control_latch (h : 0x6000 ≤ n) :
    mbc3Control c n v =
      if v = 0x01 then { c with rtcIsLatched := false }
      else if v = 0x00 then { c with rtcIsLatched := true, rtcLive := c.rtcLatched }
      else c := by
  rw [mbc3Control, if_neg (by omega), if_neg (by omega), if_neg (by omega)]

theorem mbc5Control_ramEnable (h : n < 0x2000) :
    mbc5Control c n v = { c with ramEnabled := ramEnableOf c.ramEnabled v } := if_pos h

theorem mbc5Control_romBank (h : 0x2000 ≤ n ∧ n < 0x4000) : mbc5Control c n v = { c with romBank := v } := by
  simp (disch := omega) only [mbc5Control, if_pos, if_neg]

theorem mbc5Control_ramBank (h : 0x4000 ≤ n ∧ n < 0x6000) : mbc5Control c n v = { c with ramBank := v &&& 0x0F } := by
  simp (disch := omega) only [mbc5Control, if_pos, if_neg]

theorem mbc5Control_high (h : 0x6000 ≤ n) : mbc5Control c n v = c := by
  simp (disch := omega) only [mbc5Control, if_neg]

end Controls

section ControlWrites

variable {a : Word} {v : Byte} {s : State}

/-! A control write answers what its controller makes of the cartridge (20 R155). -/

theorem busWrite_romOnly (hm : s.cart.mbc = .romOnly) (h : a.toNat < 0x8000) : busWrite a v s = .ok () s := by
  rw [busWrite_rom h, cartControl, hm]

theorem busWrite_mbc1 {c : Cart} (hm : s.cart.mbc = .mbc1) (h : a.toNat < 0x8000)
    (hc : mbc1Control s.cart a.toNat v = c) : busWrite a v s = .ok () { s with cart := c } := by
  rw [busWrite_rom h, cartControl, hm, ← hc]

theorem busWrite_mbc2 {c : Cart} (hm : s.cart.mbc = .mbc2) (h : a.toNat < 0x8000)
    (hc : mbc2Control s.cart a.toNat v = c) : busWrite a v s = .ok () { s with cart := c } := by
  rw [busWrite_rom h, cartControl, hm, ← hc]

theorem busWrite_mbc3 {c : Cart} (hm : s.cart.mbc = .mbc3) (h : a.toNat < 0x8000)
    (hc : mbc3Control s.cart a.toNat v = c) : busWrite a v s = .ok () { s with cart := c } := by
  rw [busWrite_rom h, cartControl, hm, ← hc]

theorem busWrite_mbc5 {c : Cart} (hm : s.cart.mbc = .mbc5) (h : a.toNat < 0x8000)
    (hc : mbc5Control s.cart a.toNat v = c) : busWrite a v s = .ok () { s with cart := c } := by
  rw [busWrite_rom h, cartControl, hm, ← hc]

/-- The three cases of a RAM enable by the low nibble (20 R156, D27). -/
theorem busWrite_ramEnable_cases
    (h : busWrite a v s = .ok () { s with cart.ramEnabled := ramEnableOf s.cart.ramEnabled v }) :
    (v &&& 0x0F = 0x0A → busWrite a v s = .ok () { s with cart.ramEnabled := true }) ∧
    (v &&& 0x0F = 0x00 → busWrite a v s = .ok () { s with cart.ramEnabled := false }) ∧
    (v &&& 0x0F ≠ 0x0A → v &&& 0x0F ≠ 0x00 → busWrite a v s = .ok () s) := by
  refine ⟨fun hA => ?_, fun h0 => ?_, fun hA h0 => ?_⟩
  · rw [h, ramEnableOf, if_pos hA]
  · rw [h, ramEnableOf, if_neg (by rw [h0]; decide), if_pos h0]
  · rw [h, ramEnableOf, if_neg hA, if_neg h0]

end ControlWrites

/-! ## The RAM window (20 R154, R160, R163, R168, R169) -/

section Window

variable {a : Word} {v : Byte} {s : State}

theorem window_absent (h : 0xA000 ≤ a.toNat ∧ a.toNat < 0xC000) (ht : ramTarget s.cart a.toNat = .absent) :
    peek a s = .ok ⟨0x00, 0xFF⟩ ∧ busWrite a v s = .ok () s :=
  ⟨by rw [peek_cartRam h, peekCartRam, ht]; rfl, busWrite_of_writeCartRam h (by rw [writeCartRam, ht])⟩

theorem window_ram {i : Nat} (h : 0xA000 ≤ a.toNat ∧ a.toNat < 0xC000) (ht : ramTarget s.cart a.toNat = .ram i) :
    peek a s = .ok ⟨s.cart.ram.get i, 0x00⟩ ∧ busWrite a v s = .ok () { s with cart.ram := s.cart.ram.set i v } :=
  ⟨by rw [peek_cartRam h, peekCartRam, ht]; rfl, busWrite_of_writeCartRam h (by rw [writeCartRam, ht])⟩

theorem window_nibble {i : Nat} (h : 0xA000 ≤ a.toNat ∧ a.toNat < 0xC000)
    (ht : ramTarget s.cart a.toNat = .nibble i) :
    peek a s = .ok ⟨s.cart.mbc2Ram.get i &&& 0x0F, 0xF0⟩ ∧
      busWrite a v s = .ok () { s with cart.mbc2Ram := s.cart.mbc2Ram.set i (v &&& 0x0F) } :=
  ⟨by rw [peek_cartRam h, peekCartRam, ht], busWrite_of_writeCartRam h (by rw [writeCartRam, ht])⟩

theorem window_rtcLatched {i : Nat} (h : 0xA000 ≤ a.toNat ∧ a.toNat < 0xC000)
    (ht : ramTarget s.cart a.toNat = .rtc i) (hl : s.cart.rtcIsLatched = true) :
    peek a s = .ok ⟨s.cart.rtcLatched.get i, 0x00⟩ ∧
      busWrite a v s = .ok () { s with cart.rtcLatched := s.cart.rtcLatched.set i v } :=
  ⟨by rw [peek_cartRam h, peekCartRam, ht, hl]; rfl,
    busWrite_of_writeCartRam h (by simp only [writeCartRam, ht, hl, if_true])⟩

theorem window_rtcLive {i : Nat} (h : 0xA000 ≤ a.toNat ∧ a.toNat < 0xC000)
    (ht : ramTarget s.cart a.toNat = .rtc i) (hl : s.cart.rtcIsLatched = false) :
    peek a s = .ok ⟨s.cart.rtcLive.get i, 0x00⟩ ∧
      busWrite a v s = .ok () { s with cart.rtcLive := s.cart.rtcLive.set i v } :=
  ⟨by rw [peek_cartRam h, peekCartRam, ht, hl]; rfl,
    busWrite_of_writeCartRam h (by simp only [writeCartRam, ht, hl, Bool.false_eq_true, if_false])⟩

theorem window_badRtc {b : Byte} (h : 0xA000 ≤ a.toNat ∧ a.toNat < 0xC000)
    (ht : ramTarget s.cart a.toNat = .badRtc b) :
    busRead a s = .stop (.rtcIndexOutOfRange b) s ∧ busWrite a v s = .stop (.rtcIndexOutOfRange b) s :=
  ⟨busRead_of_error (by rw [peek_cartRam h, peekCartRam, ht]),
    busWrite_of_writeCartRam_error h (by rw [writeCartRam, ht])⟩

end Window

section Targets

variable {c : Cart} {n : Nat}

theorem ramTarget_absent (h : c.mbc = .romOnly ∨ c.ramEnabled = false) : ramTarget c n = .absent := if_pos h

theorem ramTarget_mbc1 (hm : c.mbc = .mbc1) (he : c.ramEnabled = true) :
    ramTarget c n = .ram (c.ramBank.toNat * 0x2000 + (n - 0xA000)) := by
  simp [ramTarget, hm, he]

theorem ramTarget_mbc2 (hm : c.mbc = .mbc2) (he : c.ramEnabled = true) :
    ramTarget c n = .nibble ((n - 0xA000) &&& 0x1FF) := by
  simp [ramTarget, hm, he, Nat.and_two_pow_sub_one_eq_mod (n - 0xA000) 9]

theorem ramTarget_mbc3 (hm : c.mbc = .mbc3) (he : c.ramEnabled = true) :
    ramTarget c n =
      if c.ramBank.toNat < 4 then .ram (c.ramBank.toNat * 0x2000 + (n - 0xA000))
      else if c.ramBank.toNat ≤ 0x0F then .rtc c.ramBank.toNat
      else .badRtc c.ramBank := by
  simp [ramTarget, hm, he]

theorem ramTarget_mbc5 (hm : c.mbc = .mbc5) (he : c.ramEnabled = true) :
    ramTarget c n = .ram (c.ramBank.toNat * 0x2000 + (n - 0xA000)) := by
  simp [ramTarget, hm, he]

end Targets

/-! ## The controllers (O29 to O31) -/

/-- Settles O29: each range's equation, and the mode or the written bit decides inside it. -/
theorem mbc1Control_obligation : Obligations.Mbc1Control := by
  intro a v s hm
  have hw := fun {c} => busWrite_mbc1 (a := a) (v := v) (c := c) hm
  refine ⟨fun h => ?_, fun h => ?_, fun h => ⟨fun hk => ?_, fun hk => ?_⟩, fun h => ⟨fun hv => ?_, fun hv => ?_⟩⟩
  · exact busWrite_ramEnable_cases (hw (by omega) (mbc1Control_ramEnable (by omega)))
  · exact hw (by omega) (mbc1Control_romBank (by omega))
  · exact hw (by omega) (mbc1Control_highBits (by omega) hk)
  · exact hw (by omega) (mbc1Control_ramBank (by omega) hk)
  · exact hw (by omega) (mbc1Control_romMode h.1 hv)
  · exact hw (by omega) (mbc1Control_ramMode h.1 hv)

/-- Settles O30, controller by controller and range by range. -/
theorem otherControllers : Obligations.OtherControllers := by
  refine ⟨fun a v s hm h => busWrite_romOnly hm (by omega), fun a v s hm => ?_,
    fun a v s hm => ?_, fun a v s hm => ?_⟩
  · have hw := fun {c} => busWrite_mbc2 (a := a) (v := v) (c := c) hm
    have hignored : a.toNat ≤ 0x1FFF → a.getLsbD 8 = true → busWrite a v s = .ok () s :=
      fun h hb => hw (by omega) (mbc2Control_low_ignored (by omega) hb)
    have henable := fun (h : a.toNat ≤ 0x1FFF) (hb : a.getLsbD 8 = false) =>
      busWrite_ramEnable_cases (hw (by omega) (mbc2Control_ramEnable (by omega) hb))
    refine ⟨fun h => ⟨hignored h, fun hb hA => ?_, fun hb h0 => ?_, fun hA h0 => ?_⟩,
      fun h => ⟨fun hb => ?_, fun hb => ?_⟩, fun h => hw (by omega) (mbc2Control_high h.1)⟩
    · exact (henable h hb).1 hA
    · exact (henable h hb).2.1 h0
    · cases hb : a.getLsbD 8 with
      | true => exact hignored h hb
      | false => exact (henable h hb).2.2 hA h0
    · exact hw (by omega) (mbc2Control_middle_ignored (by omega) hb)
    · exact hw (by omega) (mbc2Control_romBank (by omega) hb)
  · have hw := fun {c} => busWrite_mbc3 (a := a) (v := v) (c := c) hm
    refine ⟨fun h => hw (by omega) (mbc3Control_ramEnable (by omega)),
      fun h => hw (by omega) (mbc3Control_romBank (by omega)),
      fun h => hw (by omega) (mbc3Control_ramBank (by omega)), fun h => ⟨fun hv => ?_, fun hv => ?_, fun h0 h1 => ?_⟩⟩
    · exact hw (by omega) ((mbc3Control_latch h.1).trans (if_pos hv))
    · exact hw (by omega) ((mbc3Control_latch h.1).trans ((if_neg (by rw [hv]; decide)).trans (if_pos hv)))
    · exact hw (by omega) ((mbc3Control_latch h.1).trans ((if_neg h1).trans (if_neg h0)))
  · have hw := fun {c} => busWrite_mbc5 (a := a) (v := v) (c := c) hm
    exact ⟨fun h => busWrite_ramEnable_cases (hw (by omega) (mbc5Control_ramEnable (by omega))),
      fun h => hw (by omega) (mbc5Control_romBank (by omega)),
      fun h => hw (by omega) (mbc5Control_ramBank (by omega)),
      fun h => hw (by omega) (mbc5Control_high h.1),
      fun h => ⟨fun he => window_ram (by omega) (ramTarget_mbc5 hm he),
        fun he => window_absent (by omega) (ramTarget_absent (.inr he))⟩⟩

/-- Settles O31: the target of the window by controller and bank, and each target's read and write. -/
theorem cartridgeRam : Obligations.CartridgeRam := by
  intro a v s ha
  have h : 0xA000 ≤ a.toNat ∧ a.toNat < 0xC000 := by omega
  refine ⟨fun hx => window_absent h (ramTarget_absent hx), fun he => ⟨fun hm => ?_, fun hm => ?_, fun hm hb => ?_,
    fun hm hb => ?_, fun hm hb => ?_⟩⟩
  · exact window_ram h (ramTarget_mbc1 hm he)
  · exact window_nibble h (ramTarget_mbc2 hm he)
  · exact window_ram h ((ramTarget_mbc3 hm he).trans (if_pos hb))
  · have ht : ramTarget s.cart a.toNat = .rtc s.cart.ramBank.toNat :=
      (ramTarget_mbc3 hm he).trans ((if_neg (by omega)).trans (if_pos hb.2))
    exact ⟨window_rtcLatched h ht, window_rtcLive h ht⟩
  · exact window_badRtc h ((ramTarget_mbc3 hm he).trans ((if_neg (by omega)).trans (if_neg (by omega))))

end Sys2Proof.Machine
end

section
/-! PROOF. Storage by cells (10 R38, 20 R103, R105, R111): an address that names a cell reads that cell and writes it,
and a cell that is written changes alone. The frame of every store rests on these. -/

namespace Sys2Proof.Machine

open Sys2Proof.Claims

/-! ## The cell an address names -/

section Cells

variable {a : Word} {s : State}

theorem cellOf_rom (h : a.toNat < 0x8000) : cellOf a s = none := if_pos h

theorem cellOf_vram (h : 0x8000 ≤ a.toNat ∧ a.toNat < 0xA000) : cellOf a s = some (.vram (vramIndex s a.toNat)) := by
  simp (disch := omega) only [cellOf, if_pos, if_neg]

/-- The cell behind a target of the RAM window. -/
def RamTarget.cell (c : Cart) : RamTarget → Option Cell
  | .ram i => some (.ram i)
  | .nibble i => some (.nibble i)
  | .rtc i => some (.rtc c.rtcIsLatched i)
  | .absent => none
  | .badRtc _ => none

theorem cellOf_cartRam (h : 0xA000 ≤ a.toNat ∧ a.toNat < 0xC000) :
    cellOf a s = (ramTarget s.cart a.toNat).cell s.cart := by
  simp (disch := omega) only [cellOf, if_pos, if_neg]
  cases ramTarget s.cart a.toNat <;> rfl

theorem cellOf_wram (h : 0xC000 ≤ a.toNat ∧ a.toNat < 0xE000) : cellOf a s = some (.wram (wramIndex s a.toNat)) := by
  simp (disch := omega) only [cellOf, if_pos, if_neg]

theorem cellOf_echo (h : 0xE000 ≤ a.toNat ∧ a.toNat < 0xFE00) :
    cellOf a s = some (.wram (wramIndex s (a.toNat - 0x2000))) := by
  simp (disch := omega) only [cellOf, if_pos, if_neg]

theorem cellOf_oam (h : 0xFE00 ≤ a.toNat ∧ a.toNat < 0xFEA0) : cellOf a s = some (.oam (a.toNat - 0xFE00)) := by
  simp (disch := omega) only [cellOf, if_pos, if_neg]

theorem cellOf_io (h : 0xFEA0 ≤ a.toNat ∧ a.toNat < 0xFF80) : cellOf a s = none := by
  simp (disch := omega) only [cellOf, if_pos, if_neg]

theorem cellOf_hram (h : 0xFF80 ≤ a.toNat ∧ a.toNat < 0xFFFF) : cellOf a s = some (.hram (a.toNat - 0xFF80)) := by
  simp (disch := omega) only [cellOf, if_pos, if_neg]

theorem cellOf_ie (h : a.toNat = 0xFFFF) : cellOf a s = some .ie := by
  simp (disch := omega) only [cellOf, if_neg]

end Cells

/-! ## Regions: a case split over the address space -/

/-- The address space as the bus divides it. -/
inductive Region (n : Nat) : Prop
  | rom (h : n < 0x8000)
  | vram (h : 0x8000 ≤ n ∧ n < 0xA000)
  | cartRam (h : 0xA000 ≤ n ∧ n < 0xC000)
  | wram (h : 0xC000 ≤ n ∧ n < 0xE000)
  | echo (h : 0xE000 ≤ n ∧ n < 0xFE00)
  | oam (h : 0xFE00 ≤ n ∧ n < 0xFEA0)
  | unusable (h : 0xFEA0 ≤ n ∧ n < 0xFF00)
  | io (h : 0xFF00 ≤ n ∧ n < 0xFF80)
  | hram (h : 0xFF80 ≤ n ∧ n < 0xFFFF)
  | ie (h : n = 0xFFFF)

theorem region (a : Word) : Region a.toNat := by
  have hlt := a.isLt
  obtain h | h | h | h | h | h | h | h | h | h :
      a.toNat < 0x8000 ∨ (0x8000 ≤ a.toNat ∧ a.toNat < 0xA000) ∨ (0xA000 ≤ a.toNat ∧ a.toNat < 0xC000) ∨
      (0xC000 ≤ a.toNat ∧ a.toNat < 0xE000) ∨ (0xE000 ≤ a.toNat ∧ a.toNat < 0xFE00) ∨
      (0xFE00 ≤ a.toNat ∧ a.toNat < 0xFEA0) ∨ (0xFEA0 ≤ a.toNat ∧ a.toNat < 0xFF00) ∨
      (0xFF00 ≤ a.toNat ∧ a.toNat < 0xFF80) ∨ (0xFF80 ≤ a.toNat ∧ a.toNat < 0xFFFF) ∨ a.toNat = 0xFFFF := by omega
  · exact .rom h
  · exact .vram h
  · exact .cartRam h
  · exact .wram h
  · exact .echo h
  · exact .oam h
  · exact .unusable h
  · exact .io h
  · exact .hram h
  · exact .ie h

/-- The addresses that name each cell. -/
inductive NamesCell (a : Word) (s : State) : Cell → Prop
  | vram (h : 0x8000 ≤ a.toNat ∧ a.toNat < 0xA000) : NamesCell a s (.vram (vramIndex s a.toNat))
  | ram {i : Nat} (h : 0xA000 ≤ a.toNat ∧ a.toNat < 0xC000) (ht : ramTarget s.cart a.toNat = .ram i) :
      NamesCell a s (.ram i)
  | nibble {i : Nat} (h : 0xA000 ≤ a.toNat ∧ a.toNat < 0xC000) (ht : ramTarget s.cart a.toNat = .nibble i) :
      NamesCell a s (.nibble i)
  | rtc {i : Nat} (h : 0xA000 ≤ a.toNat ∧ a.toNat < 0xC000) (ht : ramTarget s.cart a.toNat = .rtc i) :
      NamesCell a s (.rtc s.cart.rtcIsLatched i)
  | wram (h : 0xC000 ≤ a.toNat ∧ a.toNat < 0xE000) : NamesCell a s (.wram (wramIndex s a.toNat))
  | echo (h : 0xE000 ≤ a.toNat ∧ a.toNat < 0xFE00) : NamesCell a s (.wram (wramIndex s (a.toNat - 0x2000)))
  | oam (h : 0xFE00 ≤ a.toNat ∧ a.toNat < 0xFEA0) : NamesCell a s (.oam (a.toNat - 0xFE00))
  | hram (h : 0xFF80 ≤ a.toNat ∧ a.toNat < 0xFFFF) : NamesCell a s (.hram (a.toNat - 0xFF80))
  | ie (h : a.toNat = 0xFFFF) : NamesCell a s .ie

theorem namesCell_of_cellOf {a : Word} {s : State} {c : Cell} (h : cellOf a s = some c) : NamesCell a s c := by
  cases region a with
  | rom hr => rw [cellOf_rom hr] at h; cases h
  | vram hr => rw [cellOf_vram hr] at h; cases h; exact .vram hr
  | cartRam hr =>
    rw [cellOf_cartRam hr] at h
    cases ht : ramTarget s.cart a.toNat with
    | ram i => rw [ht] at h; cases h; exact .ram hr ht
    | nibble i => rw [ht] at h; cases h; exact .nibble hr ht
    | rtc i => rw [ht] at h; cases h; exact .rtc hr ht
    | absent => rw [ht] at h; cases h
    | badRtc b => rw [ht] at h; cases h
  | wram hr => rw [cellOf_wram hr] at h; cases h; exact .wram hr
  | echo hr => rw [cellOf_echo hr] at h; cases h; exact .echo hr
  | oam hr => rw [cellOf_oam hr] at h; cases h; exact .oam hr
  | unusable hr => rw [cellOf_io (by omega)] at h; cases h
  | io hr => rw [cellOf_io (by omega)] at h; cases h
  | hram hr => rw [cellOf_hram hr] at h; cases h; exact .hram hr
  | ie hr => rw [cellOf_ie hr] at h; cases h; exact .ie hr

/-! ## Reading and writing a cell -/

/-- What a read of an address of the cell finds (20 R103, R160). -/
def cellBits (c : Cell) (s : State) : ReadBits :=
  if byteCell c then ⟨cellByte c s, 0x00⟩ else ⟨cellByte c s &&& 0x0F, 0xF0⟩

/-- The state with the byte `v` in the cell: its low nibble in the MBC2 RAM (20 R105, R160). -/
def setCell (c : Cell) (v : Byte) (s : State) : State :=
  match c with
  | .vram i => { s with ppu.vram := s.ppu.vram.set i v }
  | .ram i => { s with cart.ram := s.cart.ram.set i v }
  | .nibble i => { s with cart.mbc2Ram := s.cart.mbc2Ram.set i (v &&& 0x0F) }
  | .rtc true i => { s with cart.rtcLatched := s.cart.rtcLatched.set i v }
  | .rtc false i => { s with cart.rtcLive := s.cart.rtcLive.set i v }
  | .wram i => { s with wram := s.wram.set i v }
  | .oam i => { s with ppu.oam := s.ppu.oam.set i v }
  | .hram i => { s with hram := s.hram.set i v }
  | .ie => { s with ie := v }

@[simp] theorem setCell_cpu (c : Cell) (v : Byte) (s : State) : (setCell c v s).cpu = s.cpu := by
  cases c with
  | rtc latched i => cases latched <;> rfl
  | _ => rfl

@[simp] theorem setCell_cost (c : Cell) (v : Byte) (s : State) : (setCell c v s).cost = s.cost := by
  cases c with
  | rtc latched i => cases latched <;> rfl
  | _ => rfl

/-- The array behind a cell is in its canonical form. -/
def CellWf (c : Cell) (s : State) : Prop :=
  match c with
  | .vram _ => s.ppu.vram.wf = true
  | .ram _ => s.cart.ram.wf = true
  | .nibble _ => s.cart.mbc2Ram.wf = true
  | .rtc latched _ => (if latched then s.cart.rtcLatched else s.cart.rtcLive).wf = true
  | .wram _ => s.wram.wf = true
  | .oam _ => s.ppu.oam.wf = true
  | .hram _ => s.hram.wf = true
  | .ie => True

theorem wf_of_arrayWf {n : Nat} {m : Memory} (h : arrayWf n m = true) : m.wf = true := by
  rw [arrayWf, Bool.and_eq_true] at h
  exact h.1

theorem ArraysInv.cellWf {s : State} (h : ArraysInv s) (c : Cell) : CellWf c s := by
  cases c with
  | vram _ => exact wf_of_arrayWf h.vram
  | ram _ => exact wf_of_arrayWf h.ram
  | nibble _ => exact wf_of_arrayWf h.mbc2Ram
  | rtc latched _ =>
    cases latched with
    | true => exact wf_of_arrayWf h.rtcLatched
    | false => exact wf_of_arrayWf h.rtcLive
  | wram _ => exact wf_of_arrayWf h.wram
  | oam _ => exact wf_of_arrayWf h.oam
  | hram _ => exact wf_of_arrayWf h.hram
  | ie => exact trivial

/-- A read at an address of a cell finds the cell (20 R103). -/
theorem peek_of_cell {a : Word} {s : State} {c : Cell} (h : cellOf a s = some c) : peek a s = .ok (cellBits c s) := by
  cases namesCell_of_cellOf h with
  | vram hr => exact peek_vram hr
  | ram hr ht => exact (window_ram (v := 0) hr ht).1
  | nibble hr ht => exact (window_nibble (v := 0) hr ht).1
  | rtc hr ht => rw [peek_cartRam hr, peekCartRam, ht]; rfl
  | wram hr => exact peek_wram hr
  | echo hr => exact peek_echo hr
  | oam hr => exact peek_oam hr
  | hram hr => exact peek_hram hr
  | ie hr => exact peek_ie hr

/-- A write at an address of a cell stores the byte in the cell and does nothing else (20 R105). -/
theorem busWrite_of_cell {a : Word} {s : State} {c : Cell} (v : Byte) (h : cellOf a s = some c) :
    busWrite a v s = .ok () (setCell c v s) := by
  cases namesCell_of_cellOf h with
  | vram hr => exact busWrite_vram hr
  | ram hr ht => exact (window_ram hr ht).2
  | nibble hr ht => exact (window_nibble hr ht).2
  | rtc hr ht =>
    cases hl : s.cart.rtcIsLatched with
    | true => exact (window_rtcLatched hr ht hl).2
    | false => exact (window_rtcLive hr ht hl).2
  | wram hr => exact busWrite_wram hr
  | echo hr => exact busWrite_echo hr
  | oam hr => exact busWrite_oam hr
  | hram hr => exact busWrite_hram hr
  | ie hr => exact busWrite_ie hr

/-! ## A written cell changes alone -/

theorem cellByte_setCell_self {c : Cell} {s : State} (v : Byte) (hw : CellWf c s) :
    cellByte c (setCell c v s) = if byteCell c then v else v &&& 0x0F := by
  have hset : ∀ {m : Memory} (i : Nat) (w : Byte), m.wf = true → (m.set i w).get i = w :=
    fun i w hm => (Memory.get_set _ i i w hm).trans (if_pos rfl)
  cases c with
  | rtc latched i =>
    cases latched with
    | true => exact hset i v hw
    | false => exact hset i v hw
  | ie => rfl
  | vram i => exact hset i v hw
  | ram i => exact hset i v hw
  | nibble i => exact hset i _ hw
  | wram i => exact hset i v hw
  | oam i => exact hset i v hw
  | hram i => exact hset i v hw

theorem cellByte_setCell_of_ne {c d : Cell} {s : State} (v : Byte) (hw : CellWf c s) (hne : d ≠ c) :
    cellByte d (setCell c v s) = cellByte d s := by
  have hset : ∀ {m : Memory} {i j : Nat} (w : Byte), m.wf = true → j ≠ i → (m.set i w).get j = m.get j :=
    fun w hm h => (Memory.get_set _ _ _ w hm).trans (if_neg h)
  cases c with
  | vram i =>
    cases d with
    | vram j => exact hset v hw fun h => hne (congrArg _ h)
    | _ => rfl
  | ram i =>
    cases d with
    | ram j => exact hset v hw fun h => hne (congrArg _ h)
    | _ => rfl
  | nibble i =>
    cases d with
    | nibble j => exact hset _ hw fun h => hne (congrArg _ h)
    | _ => rfl
  | rtc latched i =>
    cases d with
    | rtc latched' j =>
      cases latched <;> cases latched'
      · exact hset v hw fun h => hne (congrArg _ h)
      · rfl
      · rfl
      · exact hset v hw fun h => hne (congrArg _ h)
    | _ => cases latched <;> rfl
  | wram i =>
    cases d with
    | wram j => exact hset v hw fun h => hne (congrArg _ h)
    | _ => rfl
  | oam i =>
    cases d with
    | oam j => exact hset v hw fun h => hne (congrArg _ h)
    | _ => rfl
  | hram i =>
    cases d with
    | hram j => exact hset v hw fun h => hne (congrArg _ h)
    | _ => rfl
  | ie =>
    cases d with
    | ie => exact absurd rfl hne
    | _ => rfl

/-- Storing a byte keeps the form of every array. -/
theorem CellWf.setCell {c d : Cell} {s : State} (v : Byte) (hd : CellWf d s) (hc : CellWf c s) :
    CellWf d (setCell c v s) := by
  cases c with
  | vram i => cases d with
    | vram j => exact Memory.wf_set _ i v hc
    | _ => exact hd
  | ram i => cases d with
    | ram j => exact Memory.wf_set _ i v hc
    | _ => exact hd
  | nibble i => cases d with
    | nibble j => exact Memory.wf_set _ i _ hc
    | _ => exact hd
  | rtc latched i => cases d with
    | rtc latched' j =>
      cases latched <;> cases latched'
      · exact Memory.wf_set _ i v hc
      · exact hd
      · exact hd
      · exact Memory.wf_set _ i v hc
    | _ => cases latched <;> exact hd
  | wram i => cases d with
    | wram j => exact Memory.wf_set _ i v hc
    | _ => exact hd
  | oam i => cases d with
    | oam j => exact Memory.wf_set _ i v hc
    | _ => exact hd
  | hram i => cases d with
    | hram j => exact Memory.wf_set _ i v hc
    | _ => exact hd
  | ie => exact hd

/-! ## What reads see of storage -/

theorem onlyStorage_setCell (c : Cell) (v : Byte) (s : State) : OnlyStorage s (setCell c v s) := by
  cases c with
  | rtc latched i => cases latched <;> rfl
  | _ => rfl

/-- Which cell an address names does not depend on the bytes of storage. -/
theorem cellOf_eq_of_onlyStorage {s t : State} (h : OnlyStorage s t) (x : Word) : cellOf x t = cellOf x s :=
  (congrArg (cellOf x) h).trans rfl

/-- Without a cell behind it, the RAM window reads no byte of the cartridge. -/
theorem peekCartRam_eq_of_no_cell {c d : Cart} {n : Nat} (hd : ramTarget d n = ramTarget c n)
    (hc : (ramTarget c n).cell c = none) : peekCartRam d n = peekCartRam c n := by
  rw [peekCartRam, peekCartRam, hd]
  cases ht : ramTarget c n with
  | absent => rfl
  | badRtc b => rfl
  | _ => rw [ht] at hc; cases hc

/-- An address that names no cell reads no byte of storage. -/
theorem peek_eq_of_no_cell {s t : State} (h : OnlyStorage s t) {x : Word} (hx : cellOf x s = none) :
    peek x t = peek x s := by
  refine (congrArg (peek x) h).trans ?_
  cases region x with
  | rom hr => rw [peek_rom hr, peek_rom hr]; rfl
  | vram hr => rw [cellOf_vram hr] at hx; cases hx
  | cartRam hr =>
    rw [cellOf_cartRam hr] at hx
    rw [peek_cartRam hr, peek_cartRam hr]
    exact peekCartRam_eq_of_no_cell rfl hx
  | wram hr => rw [cellOf_wram hr] at hx; cases hx
  | echo hr => rw [cellOf_echo hr] at hx; cases hx
  | oam hr => rw [cellOf_oam hr] at hx; cases hx
  | unusable hr => rw [peek_unusable hr, peek_unusable hr]
  | io hr => rw [peek_io hr, peek_io hr]; rfl
  | hram hr => rw [cellOf_hram hr] at hx; cases hx
  | ie hr => rw [cellOf_ie hr] at hx; cases hx

/-- Two states that differ in storage alone read the same at an address whose cell is the same. -/
theorem peek_eq_of_onlyStorage {s t : State} (h : OnlyStorage s t) {x : Word}
    (hx : ∀ d, cellOf x s = some d → cellByte d t = cellByte d s) : peek x t = peek x s := by
  cases hc : cellOf x s with
  | none => exact peek_eq_of_no_cell h hc
  | some d =>
    rw [peek_of_cell hc, peek_of_cell ((cellOf_eq_of_onlyStorage h x).trans hc), cellBits, cellBits, hx d hc]

/-- An address of the written cell reads the byte back (20 R103, R105, R111, R160). -/
theorem peek_of_written {s t : State} {x : Word} {c : Cell} {v : Byte} (h : OnlyStorage s t)
    (hx : cellOf x s = some c) (hv : cellByte c t = if byteCell c then v else v &&& 0x0F) :
    peek x t = .ok (if byteCell c then ⟨v, 0x00⟩ else ⟨v &&& 0x0F, 0xF0⟩) := by
  rw [peek_of_cell ((cellOf_eq_of_onlyStorage h x).trans hx), cellBits, hv]
  cases byteCell c with
  | true => rfl
  | false =>
    show Except.ok (ReadBits.mk (v &&& 0x0F &&& 0x0F) 0xF0) = _
    rw [BitVec.and_assoc, BitVec.and_self]
    rfl

/-! ## O18 and O22 -/

/-- Settles O18: the banks by cases of the mode, the echo by the equations of its region. -/
theorem wramBankAndEcho : Obligations.WramBankAndEcho := by
  refine ⟨fun s h => ?_, fun s h => ?_, fun s h => ?_, fun s h => ?_, fun a v s h => ?_⟩
  · rw [wramBank, h]; rfl
  · have hz : s.svbk = 0 ↔ s.svbk.toNat = 0 := BitVec.toNat_inj.symm
    rw [wramBank, h, if_pos rfl]
    simp only [hz]
  · rw [vramBank, h]; rfl
  · rw [vramBank, h, Bool.true_and]
  · have hr : 0xE000 ≤ a.toNat ∧ a.toNat < 0xFE00 := by omega
    have e : (a - 0x2000).toNat = a.toNat - 0x2000 := toNat_sub_0x2000 (by omega)
    refine ⟨peek_echo_eq hr, busWrite_echo_eq hr, ?_, fun hhi => ?_⟩
    · rw [cellOf_echo hr, cellOf_wram (by omega), e]
    · rw [cellOf_echo hr, wramIndex_high (by omega), Nat.sub_sub]

/-- Settles O22: the write is `setCell`, and a written cell changes alone. -/
theorem storedByteReadsBack : Obligations.StoredByteReadsBack := by
  intro a v s c hs ha
  have hself := cellByte_setCell_self v (hs.cellWf c)
  have hother : ∀ d, d ≠ c → cellByte d (setCell c v s) = cellByte d s :=
    fun d => cellByte_setCell_of_ne v (hs.cellWf c)
  have hO := onlyStorage_setCell c v s
  refine ⟨setCell c v s, busWrite_of_cell v ha, fun x hx => peek_of_written hO hx hself, fun x hx => ?_, hself, hother,
    ?_⟩
  · exact peek_eq_of_onlyStorage hO fun d hd => hother d fun e => hx (e ▸ hd)
  · simpa only [OnlyStorage, setCell_cpu, setCell_cost] using hO

end Sys2Proof.Machine
end

section
/-! PROOF. The I/O registers (20 R115, R130 to R132, R141): which addresses hold nothing, and what each other one reads
and stores. -/

namespace Sys2Proof.Machine

open Sys2Proof.Claims

/-! ## Addresses that hold nothing (20 R115) -/

/-- The I/O registers whose reads find state, in both modes. -/
def readsIo (p : Byte) : Bool :=
  decide (p ∈ ([0x00, 0x04, 0x05, 0x06, 0x07, 0x0F, 0x40, 0x41, 0x42, 0x43, 0x44, 0x45, 0x47, 0x48, 0x49, 0x4A, 0x4B] :
    List Byte)) || decide (0x30 ≤ p ∧ p ≤ 0x3F)

/-- The registers whose reads find state in CGB mode alone. -/
def readsCgbIo (p : Byte) : Bool :=
  decide (p ∈ ([0x4D, 0x4F, 0x55, 0x68, 0x69, 0x6A, 0x6B, 0x70] : List Byte))

/-- The I/O registers whose writes change state, in both modes. -/
def writesIo (p : Byte) : Bool :=
  decide (p ∈ ([0x00, 0x04, 0x05, 0x06, 0x07, 0x0F, 0x40, 0x41, 0x42, 0x43, 0x45, 0x46, 0x47, 0x48, 0x49, 0x4A, 0x4B] :
    List Byte)) || decide (0x10 ≤ p ∧ p ≤ 0x26) || decide (0x30 ≤ p ∧ p ≤ 0x3F)

/-- The registers whose writes change state in CGB mode alone. -/
def writesCgbIo (p : Byte) : Bool :=
  decide (p ∈ ([0x4D, 0x4F, 0x51, 0x52, 0x53, 0x54, 0x55, 0x68, 0x69, 0x6A, 0x6B, 0x70] : List Byte))

section

variable {p : Byte} {s : State}

theorem peekIo_floating (h : readsIo p = false) (hc : s.cgbMode = false ∨ readsCgbIo p = false) :
    peekIo p s = .floating := by
  simp only [readsIo, Bool.or_eq_false_iff, decide_eq_false_iff_not, List.mem_cons, not_or] at h
  have hcgb : peekCgbIo p s = .floating := by
    obtain hc | hc := hc
    · exact if_pos hc
    · simp only [readsCgbIo, decide_eq_false_iff_not, List.mem_cons, not_or] at hc
      simp only [peekCgbIo, hc, if_false, ite_self]
  simp only [peekIo, h, if_false, hcgb]

theorem writeIo_ignored {v : Byte} (h : writesIo p = false) (hc : s.cgbMode = false ∨ writesCgbIo p = false) :
    writeIo p v s = .ok () s := by
  simp only [writesIo, Bool.or_eq_false_iff, decide_eq_false_iff_not, List.mem_cons, not_or] at h
  have hcgb : writeCgbIo p v s = .ok () s := by
    obtain hc | hc := hc
    · exact if_pos hc
    · simp only [writesCgbIo, decide_eq_false_iff_not, List.mem_cons, not_or] at hc
      simp only [writeCgbIo, hc, if_false, ite_self]
  simp only [writeIo, h, if_false, hcgb]

end

/-- The unmapped addresses, by the low byte. -/
def unmappedByte (cgb : Bool) (p : Byte) : Bool :=
  !readsIo p && !writesIo p && (!cgb || (!readsCgbIo p && !writesCgbIo p))

theorem unmappedByte_of_unmappedIo :
    ∀ (cgb : Bool) (p : Byte), unmappedIo cgb (mkWord 0xFF p) → unmappedByte cgb p = true := by
  unfold unmappedIo
  decide +kernel

/-- An I/O address by its low byte. -/
theorem mkWord_loByte {a : Word} (h : 0xFF00 ≤ a.toNat) : mkWord 0xFF (loByte a) = a := by
  refine BitVec.eq_of_toNat_eq ?_
  have hlt := a.isLt
  rw [mkWord_toNat, loByte_toNat]
  show 0xFF * 256 + a.toNat % 256 = a.toNat
  omega

theorem unmappedIo_io {cgb : Bool} {a : Word} (h : unmappedIo cgb a) : 0xFF00 ≤ a.toNat ∧ a.toNat < 0xFF80 := by
  simp only [unmappedIo, BitVec.le_def, ← BitVec.toNat_inj, BitVec.reduceToNat] at h
  omega

/-- An unmapped address reads as a draw and ignores writes. -/
theorem unmapped_holds_nothing {a : Word} {s : State} (v : Byte) (h : unmappedIo s.cgbMode a) :
    peek a s = .ok ⟨0x00, 0xFF⟩ ∧ busWrite a v s = .ok () s := by
  have hr := unmappedIo_io h
  have hp := unmappedByte_of_unmappedIo s.cgbMode (loByte a) (by rwa [mkWord_loByte hr.1])
  simp only [unmappedByte, Bool.and_eq_true, Bool.or_eq_true, Bool.not_eq_true'] at hp
  obtain ⟨⟨hread, hwrite⟩, hcgb⟩ := hp
  refine ⟨?_, ?_⟩
  · rw [peek_io hr, peekIo_floating hread (hcgb.imp_right (·.1))]; rfl
  · rw [busWrite_io hr, writeIo_ignored hwrite (hcgb.imp_right (·.2))]

/-! ## The read of each register (O19) -/

/-- 60 R531: the lines of the joypad as P1 reads them. -/
theorem joypadLines_eq (s : State) :
    joypadLines s = (if s.p1.getLsbD 1 = false then s.inputMask.extractLsb' 0 4 else 0xF#4) &&&
      (if s.p1.getLsbD 0 = false then s.inputMask.extractLsb' 4 4 else 0xF#4) := by
  unfold joypadLines
  cases s.p1.getLsbD 1 <;> cases s.p1.getLsbD 0 <;> rfl

/-- A state in CGB mode, with the mode written out. -/
theorem State.eq_of_cgbMode {s : State} (h : s.cgbMode = true) : s = { s with cgbMode := true } := by
  rw [← h]

/-- A register whose reads find no state in either mode reads as a draw. -/
theorem peek_io_floating {p : Byte} {s : State} (hp : p < 0x80) (h : readsIo p = false) (hc : readsCgbIo p = false) :
    peek (mkWord 0xFF p) s = .ok ⟨0x00, 0xFF⟩ := by
  have hlt : p.toNat < 0x80 := BitVec.lt_def.mp hp
  have hn : (mkWord 0xFF p).toNat = 0xFF00 + p.toNat := mkWord_toNat 0xFF p
  rw [peek_io (by omega), loByte_mkWord, peekIo_floating h (.inr hc)]
  rfl

/-- Settles O19: each address evaluates to its register; the sound registers and DMA are addresses whose reads find
nothing. -/
theorem ioReads : Obligations.IoReads := by
  intro s
  refine ⟨?_, rfl, rfl, rfl, rfl, rfl, fun p hp => ?_, fun p hp => ?_, rfl, rfl, rfl, rfl, rfl, rfl,
    peek_io_floating (p := 0x46) (by decide) rfl rfl, rfl, rfl, rfl, rfl, rfl, fun hc => ?_⟩
  · exact congrArg (fun x => Except.ok (ReadBits.mk (0#2 ++ s.p1 ++ x) 0xC0)) (joypadLines_eq s)
  · interval_cases p <;> rfl
  · have h : ∀ p < 32, BitVec.ofNat 16 (0xFF10 + p) = mkWord 0xFF (BitVec.ofNat 8 (0x10 + p)) ∧
        (BitVec.ofNat 8 (0x10 + p) : Byte) < 0x80 ∧ readsIo (BitVec.ofNat 8 (0x10 + p)) = false ∧
        readsCgbIo (BitVec.ofNat 8 (0x10 + p)) = false := by decide
    obtain ⟨e, hlt, h1, h2⟩ := h p hp
    rw [e]
    exact peek_io_floating hlt h1 h2
  · rw [State.eq_of_cgbMode hc]
    exact ⟨rfl, rfl, fun p hp => by interval_cases p <;> rfl, rfl, rfl, rfl, rfl, rfl, rfl⟩

/-! ## The writes (O20, O21) -/

/-- 20 R132: the index after a palette data write counts modulo 64. -/
theorem palIndexNext_eq (x : PalIndex) :
    palIndexNext x = if x.autoinc then ⟨true, BitVec.ofNat 6 ((x.index.toNat + 1) &&& 0x3F)⟩ else x := by
  have e : BitVec.ofNat 6 ((x.index.toNat + 1) &&& 0x3F) = x.index + 1 := by
    refine BitVec.eq_of_toNat_eq ?_
    rw [BitVec.toNat_ofNat, Nat.and_two_pow_sub_one_eq_mod _ 6, Nat.mod_mod, BitVec.toNat_add]
    rfl
  obtain ⟨inc, i⟩ := x
  cases inc with
  | true => rw [e]; rfl
  | false => rfl

/-- Settles O20: each address evaluates to its write; LY's is ignored, and a PPU step tests LCDC[7] first. -/
theorem ioWriteEffects : Obligations.IoWriteEffects := by
  intro v s
  have hif : (v &&& 0x1F).extractLsb' 0 5 = v.extractLsb' 0 5 := by revert v; decide
  have hly : busWrite 0xFF44 v s = .ok () s :=
    (busWrite_io (by decide)).trans (writeIo_ignored rfl (.inr rfl))
  refine ⟨rfl, rfl, ?_, rfl, hly, rfl, fun hv spd c => ?_, fun hc => ?_⟩
  · rw [hif]; rfl
  · exact if_neg (by show ¬bitOf v 7 = true; rw [bitOf, hv]; decide)
  · rw [State.eq_of_cgbMode hc]
    refine ⟨rfl, rfl, rfl, rfl, rfl, ?_, ?_, rfl, rfl⟩
    · rw [← palIndexNext_eq]; rfl
    · rw [← palIndexNext_eq]; rfl

/-- 20 R131: the timer counter after a TAC write is unchanged, or cleared where the parameter says so. -/
theorem tacCounter_cases (changed : Bool) (k : Nat) :
    (tacCounter changed k = k ∨ tacCounter changed k = 0 ∧ Config.tacWriteResetsCounter = true ∧ changed = true) ∧
    (Config.tacWriteResetsCounter = true → changed = true → tacCounter changed k = 0) := by
  cases k with
  | zero => exact ⟨.inl rfl, fun _ _ => rfl⟩
  | succ k =>
    simp only [tacCounter, Bool.and_eq_true]
    by_cases h : changed = true ∧ Config.tacWriteResetsCounter = true
    · rw [if_pos h]; exact ⟨.inr ⟨rfl, h.2, h.1⟩, fun _ _ => rfl⟩
    · rw [if_neg h]; exact ⟨.inl rfl, fun h1 h2 => absurd ⟨h2, h1⟩ h⟩

theorem and_0xF0_eq (v : Byte) : v &&& 0xF0 = v.extractLsb' 4 4 ++ 0#4 := by revert v; decide

theorem or_0x80_and_0x1F_eq (v : Byte) : 0x80 ||| (v &&& 0x1F) = 0b100#3 ++ v.extractLsb' 0 5 := by revert v; decide

/-- 20 R141: the low byte of an HDMA address keeps the high nibble alone. -/
theorem mkWord_and_0xF0 (hi v : Byte) : mkWord hi (v &&& 0xF0) = hi ++ v.extractLsb' 4 4 ++ 0#4 := by
  rw [and_0xF0_eq, mkWord]
  exact (BitVec.append_assoc' ..)

/-- Settles O21: the unmapped addresses by the low byte, every other address by evaluation, for both values of the open
parameter. -/
theorem ioStoresAndUnmapped : Obligations.IoStoresAndUnmapped := by
  intro v s
  refine ⟨fun a => unmapped_holds_nothing v, rfl, rfl, ⟨_, rfl, ?_⟩, fun p hp => ?_, rfl, rfl, rfl, rfl, rfl, rfl, rfl,
    rfl, fun hc => ?_⟩
  · have h := tacCounter_cases (decide (v.extractLsb' 0 2 ≠ s.timer.tac.extractLsb' 0 2)) s.timer.timerCounter
    rwa [decide_eq_true_iff] at h
  · interval_cases p <;> rfl
  · rw [State.eq_of_cgbMode hc]
    refine ⟨rfl, ?_, ?_, ?_⟩
    · rw [← mkWord_and_0xF0]; rfl
    · rw [← or_0x80_and_0x1F_eq]; rfl
    · rw [← mkWord_and_0xF0]; rfl

end Sys2Proof.Machine
end

section
/-! PROOF. OAM DMA and HDMA (20 R140 to R144): where each copied byte lands, and what a copy leaves alone. -/

namespace Sys2Proof.Machine

open Sys2Proof.Claims

/-! ## The addresses of OAM and of VRAM -/

theorem toNat_of_cellOf_oam {a : Word} {s : State} {i : Nat} (h : cellOf a s = some (.oam i)) :
    a.toNat = 0xFE00 + i ∧ i < 160 := by
  generalize hc : Cell.oam i = c at h
  cases namesCell_of_cellOf h with
  | oam hr => have hi := Cell.oam.inj hc; omega
  | _ => cases hc

theorem toNat_of_cellOf_vram {a : Word} {s : State} {i : Nat} (h : cellOf a s = some (.vram i)) :
    0x8000 ≤ a.toNat ∧ a.toNat < 0xA000 := by
  generalize hc : Cell.vram i = c at h
  cases namesCell_of_cellOf h with
  | vram hr => exact hr
  | _ => cases hc

/-! ## OAM DMA (20 R140) -/

/-- The source address of byte `i` of OAM DMA. -/
theorem oamDma_source (v : Byte) (i : Nat) :
    mkWord v 0 + BitVec.ofNat 16 i = BitVec.ofNat 16 (v.toNat * 256 + i) := by
  have hv := v.isLt
  refine BitVec.eq_of_toNat_eq ?_
  rw [BitVec.toNat_add, mkWord_toNat, BitVec.toNat_ofNat, BitVec.toNat_ofNat]
  show (v.toNat * 256 + 0 + i % 65536) % 65536 = _
  omega

/-- Storing byte `i` does not change what any other source byte reads, even with OAM as the source. -/
theorem peek_oamDma_source {v : Byte} (b : Byte) {i j : Nat} {s : State} (hw : s.ppu.oam.wf = true) (hj : j < 160)
    (hne : j ≠ i) :
    peek (mkWord v 0 + BitVec.ofNat 16 j) (setCell (.oam i) b s) = peek (mkWord v 0 + BitVec.ofNat 16 j) s := by
  refine peek_eq_of_onlyStorage (onlyStorage_setCell (.oam i) b s) fun d hd => ?_
  refine cellByte_setCell_of_ne b (c := .oam i) hw ?_
  rintro rfl
  have h := toNat_of_cellOf_oam hd
  have hv := v.isLt
  rw [oamDma_source v j, BitVec.toNat_ofNat] at h
  omega

/-- One byte of OAM DMA: read, store, go on. -/
theorem oamDma_succ {v : Byte} {i : Nat} (n : Nat) {s : State} {r : ReadBits}
    (h : peek (mkWord v 0 + BitVec.ofNat 16 i) s = .ok r) :
    oamDma v i (n + 1) s = oamDma v (i + 1) n (setCell (.oam i) (readValue r s) (afterRead r s)) := by
  rw [oamDma, busRead_of_peek h]
  rfl

/-- Bytes `i` to `i + n - 1` of OAM DMA: each lands at its index, and OAM below `i` is unchanged. -/
theorem oamDma_copies (v : Byte) (n : Nat) {i : Nat} {s : State} (hn : i + n ≤ 160) (hw : s.ppu.oam.wf = true)
    (hread : ∀ k, k < n → readable (mkWord v 0 + BitVec.ofNat 16 (i + k)) s = true) :
    ∃ t, oamDma v i n s = .ok () t ∧ (∀ j, j < i → t.ppu.oam.get j = s.ppu.oam.get j) ∧
      ∀ j r, i ≤ j → j < i + n → peek (mkWord v 0 + BitVec.ofNat 16 j) s = .ok r →
        ∃ d : Byte, t.ppu.oam.get j = r.value ||| (d &&& r.drawn) := by
  induction n generalizing i s with
  | zero => exact ⟨s, rfl, fun _ _ => rfl, fun j r h h' => by omega⟩
  | succ n ih =>
    obtain ⟨r, hr⟩ := readable_iff.mp (hread 0 (Nat.zero_lt_succ n))
    have hw' : (afterRead r s).ppu.oam.wf = true := by rwa [afterRead_ppu]
    have hget : ∀ j, (setCell (.oam i) (readValue r s) (afterRead r s)).ppu.oam.get j =
        if j = i then readValue r s else s.ppu.oam.get j := fun j => by
      rw [← afterRead_ppu r s]
      exact Memory.get_set _ i j _ hw'
    obtain ⟨t, ht, hlow, hcopy⟩ := ih (i := i + 1) (s := setCell (.oam i) (readValue r s) (afterRead r s)) (by omega)
      (Memory.wf_set _ _ _ hw') fun k hk => by
        have h := hread (k + 1) (by omega)
        rw [← show i + 1 + k = i + (k + 1) by omega] at h
        exact (readable_congr _ (s := setCell (.oam i) (readValue r s) (afterRead r s)) (afterRead_cart r s)).trans h
    refine ⟨t, (oamDma_succ n hr).trans ht, fun j hj => ?_, fun j q hij hjn hq => ?_⟩
    · rw [hlow j (by omega), hget, if_neg (by omega)]
    · obtain rfl | hne := eq_or_ne j i
      · cases hr.symm.trans hq
        exact ⟨Config.draw s.draws, by rw [hlow j (by omega), hget, if_pos rfl]; rfl⟩
      · exact hcopy j q (by omega) (by omega)
          (by rw [peek_oamDma_source _ hw' (by omega) hne, peek_afterRead, hq])

/-- Settles O23: the write is OAM DMA from index 0, which changes nothing but OAM and the draws. -/
theorem oamDmaCopies : Obligations.OamDmaCopies := by
  intro v s hw hread
  simp only [blockReadable, List.all_eq_true, List.mem_range] at hread
  obtain ⟨t, ht, -, hcopy⟩ := oamDma_copies v 160 (i := 0) (by decide) hw
    (fun k hk => by rw [Nat.zero_add]; exact hread k hk)
  obtain ⟨m, d, hstate⟩ := oamDma_state v 160 0 s
  rw [ht, Res.state_ok] at hstate
  refine ⟨t, ht, fun i r hi hr => ?_, by rw [hstate]⟩
  exact hcopy i r (Nat.zero_le i) (by omega) (by rwa [oamDma_source v i])

/-! ## HDMA (20 R142) -/

theorem toNat_and_0x1FFF (w : Word) : (w &&& 0x1FFF).toNat = w.toNat % 0x2000 := by
  rw [BitVec.toNat_and]
  exact Nat.and_two_pow_sub_one_eq_mod _ 13

/-- The address after a destination stays within VRAM (20 R142): only the low 13 bits count on. -/
theorem dst_add (w x : Word) : (0x8000 ||| (w &&& 0x1FFF)) + x &&& 0x1FFF = (w + x) &&& 0x1FFF := by
  refine BitVec.eq_of_toNat_eq ?_
  have hw : (w &&& 0x1FFF).toNat < 2 ^ 15 := Nat.lt_of_le_of_lt (toNat_and_le _ _) (by decide)
  have e : (0x8000 ||| (w &&& 0x1FFF)).toNat = 2 ^ 15 + (w &&& 0x1FFF).toNat := toNat_or_of_lt rfl hw
  rw [toNat_and_0x1FFF, toNat_and_0x1FFF, BitVec.toNat_add, BitVec.toNat_add, e, toNat_and_0x1FFF]
  omega

theorem add_one_add_ofNat (w : Word) (i : Nat) : w + 1 + BitVec.ofNat 16 i = w + BitVec.ofNat 16 (i + 1) := by
  rw [BitVec.add_assoc, Nat.add_comm i 1, BitVec.ofNat_add]
  rfl

/-- Where byte `i` of a transfer from state `s` lands in the VRAM array. -/
def copyIndex (s : State) (i : Nat) : Nat :=
  vramBank s * 0x2000 + ((s.hdma.dst + BitVec.ofNat 16 i) &&& 0x1FFF).toNat

/-- The state after `CopyByte()` has read the bits `r`. -/
def copied (r : ReadBits) (s : State) : State :=
  { afterRead r s with
    ppu.vram := s.ppu.vram.set (vramBank s * 0x2000 + (s.hdma.dst &&& 0x1FFF).toNat) (readValue r s)
    hdma.src := s.hdma.src + 1
    hdma.dst := 0x8000 ||| ((s.hdma.dst + 1) &&& 0x1FFF) }

theorem copyByte_of_peek {s : State} {r : ReadBits} (h : peek s.hdma.src s = .ok r) :
    copyByte s = .ok () (copied r s) := by
  rw [copyByte, busRead_of_peek h, Res.then_ok, copied]
  unfold afterRead
  split <;> rfl

theorem copyByte_of_error {s : State} {e : Fault} (h : peek s.hdma.src s = .error e) : copyByte s = .stop e s := by
  rw [copyByte, busRead_of_error h]
  rfl

theorem copyBytes_succ_of_peek {s : State} {r : ReadBits} (n : Nat) (h : peek s.hdma.src s = .ok r) :
    copyBytes (n + 1) s = copyBytes n (copied r s) := by
  rw [copyBytes, copyByte_of_peek h, Res.bind_ok]

section Copied

variable {s : State} (r : ReadBits)

theorem copied_cart : (copied r s).cart = s.cart := afterRead_cart r s

theorem vramBank_copied : vramBank (copied r s) = vramBank s := by
  unfold copied afterRead
  split <;> rfl

theorem copyIndex_zero : copyIndex s 0 = vramBank s * 0x2000 + (s.hdma.dst &&& 0x1FFF).toNat := by
  rw [copyIndex, BitVec.add_zero]

theorem copyIndex_copied (i : Nat) : copyIndex (copied r s) i = copyIndex s (i + 1) := by
  rw [copyIndex, copyIndex, vramBank_copied, ← add_one_add_ofNat]
  exact congrArg (fun x : Word => vramBank s * 0x2000 + x.toNat) (dst_add _ _)

theorem copyIndex_injective {i j : Nat} (hi : i < 0x2000) (hj : j < 0x2000) (h : copyIndex s i = copyIndex s j) :
    i = j := by
  simp only [copyIndex, toNat_and_0x1FFF, BitVec.toNat_add, BitVec.toNat_ofNat] at h
  omega

theorem vram_copied (hw : s.ppu.vram.wf = true) (j : Nat) :
    (copied r s).ppu.vram.get j = if j = copyIndex s 0 then readValue r s else s.ppu.vram.get j := by
  rw [copyIndex_zero]
  exact Memory.get_set _ _ j _ hw

/-- No read outside VRAM sees a copied byte, nor the HDMA addresses. -/
theorem peek_copied {x : Word} (hw : s.ppu.vram.wf = true) (hx : x.toNat < 0x8000 ∨ 0xA000 ≤ x.toNat) :
    peek x (copied r s) = peek x s := by
  have e : peek x (copied r s) = peek x (setCell (.vram (vramBank s * 0x2000 + (s.hdma.dst &&& 0x1FFF).toNat))
      (readValue r s) s) := by
    unfold copied afterRead
    split <;> rfl
  rw [e]
  refine peek_eq_of_onlyStorage (onlyStorage_setCell _ _ s) fun d hd => cellByte_setCell_of_ne _ (by exact hw) ?_
  rintro rfl
  have := toNat_of_cellOf_vram hd
  omega

end Copied

theorem hdma_copied (r : ReadBits) (s : State) : (copied r s).hdma = { s.hdma with
    src := s.hdma.src + 1, dst := 0x8000 ||| ((s.hdma.dst + 1) &&& 0x1FFF) } := by
  unfold copied afterRead
  split <;> rfl

/-- A copy that goes on has copied its first byte. -/
theorem copied_of_copyBytes {n : Nat} {s t : State} (h : copyBytes (n + 1) s = .ok () t) :
    ∃ r, copyBytes n (copied r s) = .ok () t := by
  cases hp : peek s.hdma.src s with
  | error e => rw [copyBytes, copyByte_of_error hp] at h; cases h
  | ok r => exact ⟨r, (copyBytes_succ_of_peek n hp).symm.trans h⟩

/-- A copy moves both addresses by its length and leaves the rest of the unit (20 R142). -/
theorem hdma_copyBytes (n : Nat) {s t : State} (h : copyBytes (n + 1) s = .ok () t) :
    t.hdma = { s.hdma with
      src := s.hdma.src + BitVec.ofNat 16 (n + 1)
      dst := 0x8000 ||| ((s.hdma.dst + BitVec.ofNat 16 (n + 1)) &&& 0x1FFF) } := by
  obtain ⟨r, hr⟩ := copied_of_copyBytes h
  induction n generalizing s r with
  | zero => cases hr; exact hdma_copied r s
  | succ n ih =>
    obtain ⟨q, hq⟩ := copied_of_copyBytes hr
    rw [ih hr q hq, hdma_copied]
    dsimp only
    rw [add_one_add_ofNat, dst_add, add_one_add_ofNat]

/-- A copy whose source can be read completes; it changes no VRAM outside its destination, and with a source outside
VRAM each destination byte is the one read (20 R142). -/
theorem copyBytes_copies (n : Nat) {s : State} (hn : n ≤ 0x2000) (hw : s.ppu.vram.wf = true)
    (hread : blockReadable s.hdma.src n s = true) :
    ∃ t, copyBytes n s = .ok () t ∧
      (∀ j, (∀ i < n, j ≠ copyIndex s i) → t.ppu.vram.get j = s.ppu.vram.get j) ∧
      ((∀ i < n, (s.hdma.src + BitVec.ofNat 16 i).toNat < 0x8000 ∨ 0xA000 ≤ (s.hdma.src + BitVec.ofNat 16 i).toNat) →
        ∀ i r, i < n → peek (s.hdma.src + BitVec.ofNat 16 i) s = .ok r →
          ∃ d : Byte, t.ppu.vram.get (copyIndex s i) = r.value ||| (d &&& r.drawn)) := by
  induction n generalizing s with
  | zero => exact ⟨s, rfl, fun _ _ => rfl, fun _ i r hi => absurd hi (Nat.not_lt_zero i)⟩
  | succ n ih =>
    simp only [blockReadable, List.all_eq_true, List.mem_range] at hread ih
    obtain ⟨r, hr⟩ := readable_iff.mp (hread 0 (Nat.zero_lt_succ n))
    rw [BitVec.add_zero] at hr
    have hsrc : ∀ i, (copied r s).hdma.src + BitVec.ofNat 16 i = s.hdma.src + BitVec.ofNat 16 (i + 1) :=
      add_one_add_ofNat s.hdma.src
    obtain ⟨t, ht, hkeep, hcopy⟩ := ih (s := copied r s) (by omega) (Memory.wf_set _ _ _ hw) fun i hi => by
      rw [hsrc, readable_congr _ (copied_cart r)]
      exact hread (i + 1) (by omega)
    simp only [hsrc, copyIndex_copied] at hkeep hcopy
    refine ⟨t, (copyBytes_succ_of_peek n hr).trans ht, fun j hj => ?_, fun hout i q hi hq => ?_⟩
    · rw [hkeep j fun i hi => hj (i + 1) (by omega), vram_copied r hw, if_neg (hj 0 (Nat.zero_lt_succ n))]
    · cases i with
      | zero =>
        rw [BitVec.add_zero] at hq
        cases hr.symm.trans hq
        refine ⟨Config.draw s.draws, ?_⟩
        rw [hkeep _ fun i hi e => by have := copyIndex_injective (by omega) (by omega) e; omega, vram_copied r hw,
          if_pos rfl]
        rfl
      | succ i =>
        refine hcopy (fun k hk => hout (k + 1) (by omega)) i q (by omega) ?_
        rw [peek_copied r hw (hout (i + 1) hi), hq]

/-! ## The write of HDMA5 (O24, O25) -/

theorem busWrite_hdma5 {s : State} (v : Byte) (h : s.cgbMode = true) : busWrite 0xFF55 v s = writeHdma5 v s := by
  rw [State.eq_of_cgbMode h]
  rfl

/-- 20 R142: a write with bit 7 clear and no transfer active copies at once. -/
theorem busWrite_hdma5_general {s : State} {v : Byte} (h : s.cgbMode = true) (ha : s.hdma.active = false)
    (hv : v.getLsbD 7 = false) :
    busWrite 0xFF55 v s = (copyBytes (((v &&& 0x7F).toNat + 1) * 16) s).then
      fun _ t => { t with hdma.remaining := 0, hdma.active := false } := by
  have hlen : (v.extractLsb' 0 7).toNat = (v &&& 0x7F).toNat := by revert v; decide
  have hact : ¬(s.hdma.active = true ∧ bitOf v 7 = false) := fun x => absurd (ha.symm.trans x.1) (by decide)
  rw [busWrite_hdma5 v h, writeHdma5, hlen]
  exact (if_neg hact).trans (if_pos hv)

/-- Settles O24: the cases of the write are those of its tests; `CopyByte` is a read, a store and the two moves. -/
theorem hdmaWrite : Obligations.HdmaWrite := by
  refine ⟨fun v s hc ha hv => ?_, fun v s => busWrite_hdma5_general, fun v s hc hv => ?_, fun n s => ⟨rfl, rfl⟩,
    fun s r hd hr => ?_, fun s e => copyByte_of_error⟩
  · exact (busWrite_hdma5 v hc).trans (if_pos ⟨ha, hv⟩)
  · have hlen : (v.extractLsb' 0 7).toNat = (v &&& 0x7F).toNat := by revert v; decide
    have hb : ¬bitOf v 7 = false := by rw [bitOf, hv]; decide
    rw [busWrite_hdma5 v hc, writeHdma5, if_neg (fun x => hb x.2), if_neg hb, hlen]
  · have e : (s.hdma.dst &&& 0x1FFF).toNat = s.hdma.dst.toNat - 0x8000 := by rw [toNat_and_0x1FFF]; omega
    rw [copyByte_of_peek hr, copied, e]

/-- Settles O25: the transfer is a copy, whose bytes, addresses and frame are known. -/
theorem hdmaTransferCopies : Obligations.HdmaTransferCopies := by
  intro v s n hn hc ha hv hw hread
  have hle : n ≤ 0x2000 := by
    have : (v &&& 0x7F).toNat ≤ 0x7F := toNat_and_le v 0x7F
    omega
  obtain ⟨t, ht, hkeep, hcopy⟩ := copyBytes_copies n hle hw hread
  obtain ⟨m, d, x, y, hstate⟩ := copyBytes_state n s
  have hhdma := hdma_copyBytes (n - 1) (s := s) (t := t) (by rwa [Nat.sub_add_cancel (by omega)])
  rw [Nat.sub_add_cancel (by omega)] at hhdma
  rw [ht, Res.state_ok] at hstate
  refine ⟨{ t with hdma.remaining := 0, hdma.active := false }, ?_, ?_, ?_, hkeep, hcopy⟩
  · rw [busWrite_hdma5_general hc ha hv, ← hn, ht]; rfl
  · show Hdma.mk _ _ _ _ = _
    rw [hhdma]
  · rw [hstate]

/-! ## HDMA5's read and the H-blank block (O26) -/

/-- 20 R143: a count of blocks below 128 leaves bit 7 clear. -/
theorem ofNat_bit7 {n : Nat} (h : n < 128) : (BitVec.ofNat 8 n).getLsbD 7 = false := by
  rw [BitVec.getLsbD_ofNat, Nat.testBit_lt_two_pow h, Bool.and_false]

theorem or_0x80_ofNat {n : Nat} (h : n < 128) : 0x80 ||| BitVec.ofNat 8 n = BitVec.ofNat 8 (0x80 + n) := by
  have hn : (BitVec.ofNat 8 n).toNat = n := by rw [BitVec.toNat_ofNat]; omega
  refine BitVec.eq_of_toNat_eq ?_
  rw [toNat_or_of_lt (i := 7) rfl (by omega), hn, BitVec.toNat_ofNat]
  omega

theorem peek_hdma5 {s : State} (h : s.cgbMode = true) : peek 0xFF55 s = .ok ⟨hdma5Value s.hdma, 0x00⟩ := by
  rw [State.eq_of_cgbMode h]
  rfl

/-- Settles O26: the three reads by the tests of `hdma5Value`; the block is a copy of 16 bytes. -/
theorem hdmaBlockAndStatus : Obligations.HdmaBlockAndStatus := by
  refine ⟨fun s hc hle => ⟨fun ha h1 => ⟨?_, ofNat_bit7 (by omega)⟩, fun ha h0 => ?_, fun ha h0 => ?_⟩, fun s ha => ?_,
    fun s ha hread => ?_⟩
  · rw [peek_hdma5 hc, hdma5Value, if_pos ha]
  · rw [peek_hdma5 hc, hdma5Value, ha, h0]; rfl
  · rw [peek_hdma5 hc, hdma5Value, ha, if_neg (by decide), if_neg h0, or_0x80_ofNat (by omega)]
  · rw [hdmaHblankBlock, ha]; rfl
  · obtain ⟨t, ht⟩ := copyBytes_ok 16 s hread
    have hhdma := hdma_copyBytes 15 ht
    refine ⟨t, _, ht, by rw [hdmaHblankBlock, if_pos ha, ht]; rfl, ?_, by rw [hhdma]; rfl, by rw [hhdma]; rfl⟩
    have hrem : t.hdma.remaining = s.hdma.remaining := by rw [hhdma]
    simp only [hrem]

end Sys2Proof.Machine
end

section
/-! PROOF. The frame of the instructions that store (20 R105, 40 R203 to R223, 41 R260, R262, 43 R334, 44 R376): each
ends in `setCell` of what its rule stores, so that its frame is the frame of the written cells. -/

namespace Sys2Proof.Machine

open Sys2Proof.Claims

/-! ## Written cells and the CPU's registers -/

theorem setCell_withCpu (c : Cell) (v : Byte) (s : State) (k : Cpu) :
    setCell c v { s with cpu := k } = { setCell c v s with cpu := k } := by
  cases c with
  | rtc latched i => cases latched <;> rfl
  | _ => rfl

theorem cellOf_withCpu (x : Word) (s : State) (k : Cpu) : cellOf x { s with cpu := k } = cellOf x s := rfl

theorem cellOf_setCell (x : Word) (c : Cell) (v : Byte) (s : State) : cellOf x (setCell c v s) = cellOf x s :=
  cellOf_eq_of_onlyStorage (onlyStorage_setCell c v s) x

theorem cellByte_withRegs (d : Cell) (t : State) (k : Cpu) (n : Nat) :
    cellByte d { t with cpu := k, cost := n } = cellByte d t := by
  cases d <;> rfl

theorem onlyStorage_withRegs {s t : State} (h : OnlyStorage s t) (k : Cpu) (n : Nat) :
    OnlyStorage s { t with cpu := k, cost := n } := by
  have e := congrArg (fun u : State => ({ u with cpu := k, cost := n } : State)) h
  exact e

/-- The end of an instruction whose registers are known. -/
theorem spend_eq_withCpu {t : State} {k : Cpu} (n : Nat) (h : t.cpu = k) :
    spend n t = { t with cpu := k, cost := n } := by
  rw [← h]
  rfl

theorem onlyStorage_thenSetCell {s t : State} (h : OnlyStorage s t) (c : Cell) (v : Byte) :
    OnlyStorage s (setCell c v t) := by
  refine (congrArg (setCell c v) h).trans ?_
  cases c with
  | rtc latched i => cases latched <;> rfl
  | _ => rfl

/-! ## The frame of one written cell -/

/-- The frame of a state that differs from `s` in the cell `c`, the CPU's registers and the cost alone. -/
theorem frame_of_setCell {s : State} {c : Cell} (hs : ArraysInv s) (v : Byte) (k : Cpu) (n : Nat) :
    (∀ x : Word, cellOf x s = some c → peek x { setCell c v s with cpu := k, cost := n } =
      .ok (if byteCell c then ⟨v, 0x00⟩ else ⟨v &&& 0x0F, 0xF0⟩)) ∧
    (∀ x : Word, cellOf x s ≠ some c → peek x { setCell c v s with cpu := k, cost := n } = peek x s) ∧
    (∀ d : Cell, d ≠ c → cellByte d { setCell c v s with cpu := k, cost := n } = cellByte d s) ∧
    OnlyStorage s { setCell c v s with cpu := k, cost := n } := by
  have hO := onlyStorage_withRegs (onlyStorage_setCell c v s) k n
  have hother : ∀ d : Cell, d ≠ c → cellByte d { setCell c v s with cpu := k, cost := n } = cellByte d s :=
    fun d hd => (cellByte_withRegs d _ k n).trans (cellByte_setCell_of_ne v (hs.cellWf c) hd)
  refine ⟨fun x hx => peek_of_written hO hx ?_, fun x hx => ?_, hother, hO⟩
  · exact (cellByte_withRegs c _ k n).trans (cellByte_setCell_self v (hs.cellWf c))
  · exact peek_eq_of_onlyStorage hO fun d hd => hother d fun e => hx (e ▸ hd)

theorem storeFrame_of_exec {i : Instr} {a : State → Word} {v : State → Byte} {k : State → Cpu}
    (h : ∀ (s : State) (c : Cell), cellOf (a s) s = some c →
      ∃ n, exec i s = .next { setCell c (v s) s with cpu := k s, cost := n }) : StoreFrameOf i a v k := by
  intro s c hs hc
  obtain ⟨n, hn⟩ := h s c hc
  exact ⟨_, hn, rfl, frame_of_setCell hs (v s) (k s) n⟩

theorem modifyFrame_of_exec {i : Instr} {f : Byte → Flags → Byte} {g : Byte → Flags → Flags}
    (h : ∀ (s : State) (c : Cell) (b : Byte), cellOf (getHL s) s = some c → busRead (getHL s) s = .ok b s →
      ∃ n, exec i s = .next { setCell c (f b s.cpu.f) s with cpu := { s.cpu with f := g b s.cpu.f }, cost := n }) :
    ModifyFrameOf i f g := by
  intro s c r hs hc hb hr
  have hread : busRead (getHL s) s = .ok r.value s := by
    have e := (peek_of_cell hc).symm.trans hr
    rw [cellBits, if_pos hb] at e
    cases e
    rw [busRead, hr]
    rfl
  obtain ⟨n, hn⟩ := h s c r.value hc hread
  have hframe := frame_of_setCell (c := c) hs (f r.value s.cpu.f) { s.cpu with f := g r.value s.cpu.f } n
  rw [if_pos hb] at hframe
  exact ⟨_, hn, rfl, hframe⟩

/-! ## The frame of two written cells -/

theorem cellByte_setCell_two {s : State} {p q : Cell} (hs : ArraysInv s) (x y : Byte) (hne : p ≠ q)
    (hp : byteCell p = true) (hq : byteCell q = true) :
    cellByte p (setCell q y (setCell p x s)) = x ∧ cellByte q (setCell q y (setCell p x s)) = y ∧
    ∀ e, e ≠ p → e ≠ q → cellByte e (setCell q y (setCell p x s)) = cellByte e s := by
  have hw : CellWf q (setCell p x s) := (hs.cellWf q).setCell x (hs.cellWf p)
  refine ⟨?_, ?_, fun e hep heq => ?_⟩
  · rw [cellByte_setCell_of_ne y hw hne, cellByte_setCell_self x (hs.cellWf p), if_pos hp]
  · rw [cellByte_setCell_self y hw, if_pos hq]
  · rw [cellByte_setCell_of_ne y hw heq, cellByte_setCell_of_ne x (hs.cellWf p) hep]

/-- The frame of a word's store, whichever byte goes first. -/
theorem wordFrame_of_exec {i : Instr} {a v : State → Word} {k : State → Cpu}
    (h : ∀ (s : State) (c d : Cell), cellOf (a s) s = some c → cellOf (a s + 1) s = some d →
      ∃ n t, exec i s = .next { t with cpu := k s, cost := n } ∧
        (t = setCell d (hiByte (v s)) (setCell c (loByte (v s)) s) ∨
          t = setCell c (loByte (v s)) (setCell d (hiByte (v s)) s))) : WordFrameOf i a v k := by
  intro s c d hs hc hd hne hbc hbd
  obtain ⟨n, t, hn, ht⟩ := h s c d hc hd
  have hbytes : cellByte c t = loByte (v s) ∧ cellByte d t = hiByte (v s) ∧
      ∀ e, e ≠ c → e ≠ d → cellByte e t = cellByte e s := by
    obtain rfl | rfl := ht
    · exact cellByte_setCell_two hs _ _ hne hbc hbd
    · obtain ⟨h1, h2, h3⟩ := cellByte_setCell_two hs (hiByte (v s)) (loByte (v s)) hne.symm hbd hbc
      exact ⟨h2, h1, fun e hec hed => h3 e hed hec⟩
  have hO : OnlyStorage s { t with cpu := k s, cost := n } := by
    refine onlyStorage_withRegs ?_ (k s) n
    obtain rfl | rfl := ht
    · exact onlyStorage_thenSetCell (onlyStorage_setCell _ _ s) _ _
    · exact onlyStorage_thenSetCell (onlyStorage_setCell _ _ s) _ _
  obtain ⟨hlo, hhi, hother⟩ := hbytes
  have hother' : ∀ e, e ≠ c → e ≠ d → cellByte e { t with cpu := k s, cost := n } = cellByte e s :=
    fun e hec hed => (cellByte_withRegs e t _ n).trans (hother e hec hed)
  refine ⟨_, hn, rfl, fun x hx => ?_, fun x hx => ?_, fun x hxc hxd => ?_, hother', hO⟩
  · rw [peek_of_written hO hx (v := loByte (v s)) (by rw [cellByte_withRegs, hlo, if_pos hbc]), if_pos hbc]
  · rw [peek_of_written hO hx (v := hiByte (v s)) (by rw [cellByte_withRegs, hhi, if_pos hbd]), if_pos hbd]
  · exact peek_eq_of_onlyStorage hO fun e he => hother' e (fun h => hxc (h ▸ he)) fun h => hxd (h ▸ he)

/-! ## The shared operations where the address names a cell -/

section Operations

variable {s : State} {c d : Cell}

theorem storeAt_of_cell {a : Word} (v : Byte) (n : Nat) (h : cellOf a s = some c) :
    storeAt a v n s = .next { setCell c v s with cpu := s.cpu, cost := n } := by
  rw [storeAt, busWrite_of_cell v h, Res.then_ok, Res.outcome_ok, spend_eq_withCpu n (setCell_cpu c v s)]

theorem storeAStep_of_cell (w : Word) (h : cellOf (getHL s) s = some c) :
    storeAStep w s =
      .next { setCell c s.cpu.a s with cpu := (setRr .hl (getHL s + w) s).cpu, cost := 8 } := by
  rw [storeAStep, busWrite_of_cell _ h]
  have e : (setRr .hl (getHL s + w) s).cpu = (setHL (getHL (setCell c s.cpu.a s) + w) (setCell c s.cpu.a s)).cpu := by
    simp only [setRr, setHL, getHL, setCell_cpu]
  rw [e]
  rfl

/-- INC (HL) and DEC (HL): the flags are written before the byte, which is the same byte (41 R260). -/
theorem modifyAtHL_of_cell {b : Byte} (f : Byte → Flags → Byte × Flags) (h : cellOf (getHL s) s = some c)
    (hb : busRead (getHL s) s = .ok b s) :
    modifyAtHL f s =
      .next { setCell c (f b s.cpu.f).1 s with cpu := { s.cpu with f := (f b s.cpu.f).2 }, cost := 12 } := by
  have hw := busWrite_of_cell (s := setFlags (f b s.cpu.f).2 s) (f b s.cpu.f).1 h
  rw [modifyAtHL, hb, Res.bind_ok, hw, setFlags, setCell_withCpu]
  rfl

theorem push16_of_cells (v : Word) (hd : cellOf (s.cpu.sp - 2 + 1) s = some d) (hc : cellOf (s.cpu.sp - 2) s = some c) :
    push16 v s =
      .ok () { setCell c (loByte v) (setCell d (hiByte v) s) with cpu := { s.cpu with sp := s.cpu.sp - 2 } } := by
  have e : s.cpu.sp - 2 + 1 = s.cpu.sp - 1 := by bv_omega
  rw [e] at hd
  have h1 := busWrite_of_cell (s := setSp (s.cpu.sp - 1) s) (hiByte v) hd
  rw [push16_second h1]
  have e2 : setSp (s.cpu.sp - 2) (setCell d (hiByte v) (setSp (s.cpu.sp - 1) s)) =
      { setCell d (hiByte v) s with cpu := { s.cpu with sp := s.cpu.sp - 2 } } := by
    rw [setSp, setSp, setCell_withCpu]
  rw [e2, busWrite_of_cell (c := c) (loByte v) (by rw [cellOf_withCpu, cellOf_setCell, hc]), setCell_withCpu]

theorem callAlways_of_cells (t : Word) (n : Nat) (hc : cellOf (s.cpu.sp - 2) s = some c)
    (hd : cellOf (s.cpu.sp - 2 + 1) s = some d) :
    callAlways t n s = .next { setCell c (loByte s.cpu.pc) (setCell d (hiByte s.cpu.pc) s) with
      cpu := { s.cpu with sp := s.cpu.sp - 2, pc := t }, cost := n } := by
  rw [callAlways, callTo, push16_of_cells s.cpu.pc hd hc]
  rfl

theorem storeSp_of_cells {a : Word} (hc : cellOf a s = some c) (hd : cellOf (a + 1) s = some d) :
    storeSp a s = .next { setCell d (hiByte s.cpu.sp) (setCell c (loByte s.cpu.sp) s) with
      cpu := s.cpu, cost := 20 } := by
  rw [storeSp, busWrite_of_cell _ hc, Res.bind_ok, setCell_cpu,
    busWrite_of_cell (c := d) _ (by rw [cellOf_setCell, hd]), Res.then_ok, Res.outcome_ok,
    spend_eq_withCpu 20 (by rw [setCell_cpu, setCell_cpu])]

end Operations

/-! ## The CB instructions on (HL) -/

theorem cbRotate_of_cell {s : State} {c : Cell} {b : Byte} (op : RotOp) (h : cellOf (getHL s) s = some c)
    (hb : busRead (getHL s) s = .ok b s) :
    cbRotate op .atHL s = .next { setCell c (rotApply op b s.cpu.f.c).1 s with
      cpu := { s.cpu with f := cbRotFlags (rotApply op b s.cpu.f.c).1 (rotApply op b s.cpu.f.c).2 }, cost := 16 } := by
  have hget : get8 .atHL s = .ok b s := hb
  have hset := busWrite_of_cell (rotApply op b s.cpu.f.c).1 h
  rw [cbRotate, hget, Res.bind_ok, show set8 .atHL _ s = _ from hset, Res.then_ok, Res.outcome_ok, setFlags,
    setCell_cpu]
  rfl

theorem cbRes_of_cell {s : State} {c : Cell} {b : Byte} (k : Nat) (h : cellOf (getHL s) s = some c)
    (hb : busRead (getHL s) s = .ok b s) :
    cbRes k .atHL s = .next { setCell c (res8 b k) s with cpu := s.cpu, cost := 16 } := by
  have hget : get8 .atHL s = .ok b s := hb
  have hset := busWrite_of_cell (res8 b k) h
  rw [cbRes, hget, Res.bind_ok, show set8 .atHL _ s = _ from hset, Res.then_ok, Res.outcome_ok,
    spend_eq_withCpu _ (setCell_cpu c _ s)]
  rfl

theorem cbSet_of_cell {s : State} {c : Cell} {b : Byte} (k : Nat) (h : cellOf (getHL s) s = some c)
    (hb : busRead (getHL s) s = .ok b s) :
    cbSet k .atHL s = .next { setCell c (set8Bit b k) s with cpu := s.cpu, cost := 16 } := by
  have hget : get8 .atHL s = .ok b s := hb
  have hset := busWrite_of_cell (set8Bit b k) h
  rw [cbSet, hget, Res.bind_ok, show set8 .atHL _ s = _ from hset, Res.then_ok, Res.outcome_ok,
    spend_eq_withCpu _ (setCell_cpu c _ s)]
  rfl

/-! ## The operands and results, as the obligations spell them -/

theorem highPage_eq (n : Byte) : highPage n = 0xFF#8 ++ n := by revert n; decide

theorem lowNibble_eq_iff (v : Byte) :
    (lowNibble v = 0x0F ↔ v &&& 0x0F = 0x0F) ∧ (lowNibble v = 0x00 ↔ v &&& 0x0F = 0x00) := by revert v; decide

theorem inc8_eq (v : Byte) (f : Flags) :
    inc8 v f = (v + 1, { f with z := decide (v + 1 = 0), n := false, h := decide (v &&& 0x0F = 0x0F) }) := by
  simp only [inc8, (lowNibble_eq_iff v).1]

theorem dec8_eq (v : Byte) (f : Flags) :
    dec8 v f = (v - 1, { f with z := decide (v - 1 = 0), n := true, h := decide (v &&& 0x0F = 0x00) }) := by
  simp only [dec8, (lowNibble_eq_iff v).2]

theorem res8_eq (v : Byte) (k : Nat) : res8 v k = v &&& ~~~((1 : Byte) <<< k) := by
  rw [res8, BitVec.not_def]
  rfl

/-- 43 R335 to R342: each rotate and shift is the arithmetic one, bit by bit. -/
theorem rotApply_eq_rotSpec (op : RotOp) (v : Byte) (c : Bool) : rotApply op v c = rotSpec op v c := by
  revert v c
  cases op <;> decide

/-- 44 R370: the condition of a conditional instruction. -/
theorem condHolds_iff_taken {cc : Cond} {s : State} : condHolds cc s.cpu.f = true ↔ taken cc s := by
  cases cc <;> simp [condHolds, taken]

/-! ## O45 -/

/-- Settles O45: every instruction ends in the cells its rule stores, and written cells change alone. -/
theorem storeFrame : Obligations.StoreFrame := by
  refine ⟨fun q => storeFrame_of_exec fun s c h => ?_, fun n => storeFrame_of_exec fun s c h => ?_,
    storeFrame_of_exec fun s c h => ?_, storeFrame_of_exec fun s c h => ?_,
    fun a => storeFrame_of_exec fun s c h => ?_, fun n => storeFrame_of_exec fun s c h => ?_,
    storeFrame_of_exec fun s c h => ?_, storeFrame_of_exec fun s c h => ?_, storeFrame_of_exec fun s c h => ?_,
    modifyFrame_of_exec fun s c b h hb => ?_, modifyFrame_of_exec fun s c b h hb => ?_,
    fun op => modifyFrame_of_exec fun s c b h hb => ?_,
    fun k => ⟨modifyFrame_of_exec fun s c b h hb => ?_, modifyFrame_of_exec fun s c b h hb => ?_⟩,
    fun a => wordFrame_of_exec fun s c d hc hd => ?_, fun p => wordFrame_of_exec fun s c d hc hd => ?_,
    fun a => wordFrame_of_exec fun s c d hc hd => ?_, fun y => wordFrame_of_exec fun s c d hc hd => ?_,
    fun cc a s h => ?_⟩
  · exact ⟨8, (exec_st_atHL q s).trans (storeAt_of_cell _ 8 h)⟩
  · exact ⟨12, storeAt_of_cell n 12 h⟩
  · exact ⟨8, storeAt_of_cell _ 8 h⟩
  · exact ⟨8, storeAt_of_cell _ 8 h⟩
  · exact ⟨16, storeAt_of_cell _ 16 h⟩
  · exact ⟨12, storeAt_of_cell _ 12 (by rwa [highPage_eq])⟩
  · exact ⟨8, storeAt_of_cell _ 8 (by rwa [highPage_eq])⟩
  · exact ⟨8, storeAStep_of_cell 1 h⟩
  · rw [BitVec.sub_eq_add_neg]
    exact ⟨8, storeAStep_of_cell (-1) h⟩
  · have e := modifyAtHL_of_cell inc8 h hb
    rw [inc8_eq] at e
    exact ⟨12, e⟩
  · have e := modifyAtHL_of_cell dec8 h hb
    rw [dec8_eq] at e
    exact ⟨12, e⟩
  · have e := cbRotate_of_cell op h hb
    rw [rotApply_eq_rotSpec] at e
    exact ⟨16, (exec_rot op .atHL s).trans e⟩
  · have e := cbRes_of_cell k.toNat h hb
    rw [res8_eq] at e
    exact ⟨16, (exec_res k .atHL s).trans e⟩
  · exact ⟨16, (exec_set k .atHL s).trans (cbSet_of_cell k.toNat h hb)⟩
  · exact ⟨20, _, storeSp_of_cells hc hd, .inl rfl⟩
  · refine ⟨16, _, (exec_push p s).trans ?_, .inr rfl⟩
    rw [pushPair, push16_of_cells _ hd hc]
    rfl
  · exact ⟨24, _, callAlways_of_cells a 24 hc hd, .inr rfl⟩
  · exact ⟨16, _, (exec_rst y s).trans (callAlways_of_cells _ 16 hc hd), .inr rfl⟩
  · rw [exec_call_cc, callIf, if_pos (condHolds_iff_taken.mpr h)]
    rfl

end Sys2Proof.Machine
end

section
/-! PROOF. The decoder and the encoder (30 R170 to R178): the bytes each place of the opcode tables encodes to, the
decoder's answer to every byte list, and the round trips. -/

namespace Sys2Proof.Machine

/-! ## The length of an instruction (30 R176) -/

/-- Three classes of first bytes, of which the first two share none, give the three lengths. -/
theorem length_by_class {p q : Prop} [Decidable p] [Decidable q] (h : p → ¬q) :
    ((if p then 3 else if q then 2 else 1) = 3 ↔ p) ∧ ((if p then 3 else if q then 2 else 1) = 2 ↔ q) ∧
      1 ≤ (if p then 3 else if q then 2 else 1) ∧ (if p then 3 else if q then 2 else 1) ≤ 3 := by
  by_cases hp : p
  · simp [hp, h hp]
  · by_cases hq : q <;> simp [hp, hq]

/-- No byte is on both of `instrLength`'s lists. -/
theorem threeByte_not_twoByte (o : Byte) :
    o ∈ ([0x01, 0x08, 0x11, 0x21, 0x31, 0xC2, 0xC3, 0xC4, 0xCA, 0xCC, 0xCD, 0xD2, 0xD4, 0xDA, 0xDC, 0xEA, 0xFA] :
      List Byte) →
    o ∉ ([0x06, 0x0E, 0x10, 0x16, 0x18, 0x1E, 0x20, 0x26, 0x28, 0x2E, 0x30, 0x36, 0x38, 0x3E, 0xC6, 0xCB, 0xCE, 0xD6,
      0xDE, 0xE0, 0xE6, 0xE8, 0xEE, 0xF0, 0xF6, 0xF8, 0xFE] : List Byte) := by
  revert o
  decide

theorem instrLength_bounds (o : Byte) : 1 ≤ instrLength o ∧ instrLength o ≤ 3 :=
  (length_by_class (threeByte_not_twoByte o)).2.2

/-! ## What the places of the tables encode to (30 R174, R175) -/

/-- The instruction is well-formed and these are its bytes. -/
def HasBytes (i : Instr) (bs : List Byte) : Prop := WellFormed i = true ∧ encode i = bs

/-- The bytes an instruction takes of an opcode and the two bytes after it, a 16-bit operand as the two halves of the
word the decoder makes of it (30 R172). -/
def bytesTaken (o lo hi : Byte) : List Byte :=
  if instrLength o = 3 then [o, loByte (mkWord hi lo), hiByte (mkWord hi lo)]
  else if instrLength o = 2 then [o, lo]
  else [o]

theorem bytesTaken_eq_take (o lo hi : Byte) : bytesTaken o lo hi = [o, lo, hi].take (instrLength o) := by
  obtain ⟨h1, h3⟩ := instrLength_bounds o
  unfold bytesTaken
  split_ifs with e3 e2
  · rw [e3, loByte_mkWord, hiByte_mkWord]
    rfl
  · rw [e2]
    rfl
  · rw [show instrLength o = 1 by omega]
    rfl

/-- A statement about every 3-bit code is one about each code. -/
theorem code_cases {P : BitVec 3 → Prop} (c0 : P 0) (c1 : P 1) (c2 : P 2) (c3 : P 3) (c4 : P 4) (c5 : P 5) (c6 : P 6)
    (c7 : P 7) (y : BitVec 3) : P y := by
  have h : y = 0 ∨ y = 1 ∨ y = 2 ∨ y = 3 ∨ y = 4 ∨ y = 5 ∨ y = 6 ∨ y = 7 := by
    revert y
    decide
  rcases h with rfl | rfl | rfl | rfl | rfl | rfl | rfl | rfl <;> assumption

/-- 30 R171: a byte is its fields x, y and z. -/
theorem byte_eq_fields (o : Byte) : o = o.extractLsb' 6 2 ++ o.extractLsb' 3 3 ++ o.extractLsb' 0 3 := by
  revert o
  decide

theorem hasBytes_decodeX0 (y z : BitVec 3) (lo hi : Byte) :
    HasBytes (decodeX0 (0#2 ++ y ++ z) lo hi) (bytesTaken (0#2 ++ y ++ z) lo hi) := by
  cases z using code_cases <;> cases y using code_cases <;> exact ⟨rfl, rfl⟩

/-- Rows 4 to B have no operands (30 R174). -/
theorem bytesTaken_of_noOperand {x : BitVec 2} (hx : x = 1 ∨ x = 2) (y z : BitVec 3) (lo hi : Byte) :
    bytesTaken (x ++ y ++ z) lo hi = [x ++ y ++ z] := by
  have h1 : ∀ y z : BitVec 3, instrLength (x ++ y ++ z) = 1 := by rcases hx with rfl | rfl <;> decide
  rw [bytesTaken_eq_take, h1]
  rfl

theorem hasBytes_ldInstr (y z : BitVec 3) : HasBytes (ldInstr (r8OfCode y) (r8OfCode z)) [1#2 ++ y ++ z] := by
  unfold HasBytes
  revert y z
  decide

theorem hasBytes_aluInstr (y z : BitVec 3) : HasBytes (aluInstr (aluOfCode y) (r8OfCode z)) [2#2 ++ y ++ z] := by
  unfold HasBytes
  revert y z
  decide

/-- The CB table: the second byte is the opcode, not an operand. -/
theorem hasBytes_decodeCb (o : Byte) : HasBytes (decodeCb o) [0xCB, o] := by
  unfold HasBytes
  revert o
  decide

theorem hasBytes_decodeX3 (y z : BitVec 3) (lo hi : Byte) :
    HasBytes (decodeX3 (3#2 ++ y ++ z) lo hi) (bytesTaken (3#2 ++ y ++ z) lo hi) := by
  cases z using code_cases <;> cases y using code_cases
  case c3.c1 => exact hasBytes_decodeCb lo
  all_goals exact ⟨rfl, rfl⟩

/-- The base table is in four parts, by the field x (30 R171). -/
theorem decodeBytes_fields (x : BitVec 2) (y z : BitVec 3) (lo hi : Byte) :
    decodeBytes (x ++ y ++ z) lo hi =
      if x = 0 then decodeX0 (x ++ y ++ z) lo hi
      else if x = 1 then ldInstr (r8OfCode y) (r8OfCode z)
      else if x = 2 then aluInstr (aluOfCode y) (r8OfCode z)
      else decodeX3 (x ++ y ++ z) lo hi := by
  have h : ∀ (x : BitVec 2) (y z : BitVec 3), (x ++ y ++ z).extractLsb' 6 2 = x ∧
      (x ++ y ++ z).extractLsb' 3 3 = y ∧ (x ++ y ++ z).extractLsb' 0 3 = z := by decide
  obtain ⟨hx, hy, hz⟩ := h x y z
  unfold decodeBytes
  rw [hx, hy, hz]

/-- 30 R174 to R178: whatever the opcode and the bytes after it, the decoded instruction encodes to those of them it
takes. -/
theorem hasBytes_decodeBytes (o lo hi : Byte) : HasBytes (decodeBytes o lo hi) ([o, lo, hi].take (instrLength o)) := by
  rw [← bytesTaken_eq_take, byte_eq_fields o, decodeBytes_fields]
  generalize o.extractLsb' 6 2 = x, o.extractLsb' 3 3 = y, o.extractLsb' 0 3 = z
  obtain rfl | rfl | rfl | rfl : x = 0 ∨ x = 1 ∨ x = 2 ∨ x = 3 := by
    revert x
    decide
  · exact hasBytes_decodeX0 y z lo hi
  · rw [bytesTaken_of_noOperand (.inl rfl)]
    exact hasBytes_ldInstr y z
  · rw [bytesTaken_of_noOperand (.inr rfl)]
    exact hasBytes_aluInstr y z
  · exact hasBytes_decodeX3 y z lo hi

/-! ## The decoder's answers (30 R178) -/

theorem decode_of_truncated {o : Byte} {bs : List Byte} (h : bs.length + 1 < instrLength o) :
    decode (o :: bs) = .error .truncated := if_pos h

theorem decode_of_complete {o : Byte} {bs : List Byte} (h : instrLength o ≤ bs.length + 1) :
    decode (o :: bs) = .ok (decodeBytes o (bs.getD 0 0) (bs.getD 1 0), bs.drop (instrLength o - 1)) :=
  if_neg (Nat.not_lt.mpr h)

/-- Of the three bytes the decoder reads, those within the list's length are the list's. -/
theorem take_read_eq (o : Byte) (bs : List Byte) {n : Nat} (hn : n ≤ 3) (hl : n ≤ bs.length + 1) :
    [o, bs.getD 0 0, bs.getD 1 0].take n = (o :: bs).take n := by
  match bs with
  | [] =>
    have h : n ≤ 1 := hl
    interval_cases n <;> rfl
  | [_] =>
    have h : n ≤ 2 := hl
    interval_cases n <;> rfl
  | _ :: _ :: _ => interval_cases n <;> rfl

/-- A list that is long enough decodes to an instruction whose bytes are the list's first. -/
theorem exists_decode_eq {o : Byte} {bs : List Byte} (h : instrLength o ≤ bs.length + 1) :
    ∃ i, decode (o :: bs) = .ok (i, bs.drop (instrLength o - 1)) ∧ HasBytes i ((o :: bs).take (instrLength o)) := by
  refine ⟨_, decode_of_complete h, ?_⟩
  rw [← take_read_eq o bs (instrLength_bounds o).2 h]
  exact hasBytes_decodeBytes o _ _

/-- These are all the bytes the decoder takes to answer the instruction, whatever bytes follow them. -/
def DecodesTo (i : Instr) : List Byte → Prop
  | [o] => instrLength o = 1 ∧ ∀ x y, decodeBytes o x y = i
  | [o, a] => instrLength o = 2 ∧ ∀ y, decodeBytes o a y = i
  | [o, a, b] => instrLength o = 3 ∧ decodeBytes o a b = i
  | _ => False

theorem decode_append_of_decodesTo {i : Instr} {bs : List Byte} (h : DecodesTo i bs) (rest : List Byte) :
    decode (bs ++ rest) = .ok (i, rest) := by
  match bs, h with
  | [o], ⟨hn, hi⟩ => exact (decode_of_complete (by simp [hn])).trans (by rw [hi, hn]; rfl)
  | [o, a], ⟨hn, hi⟩ => exact (decode_of_complete (by simp [hn])).trans (by rw [hn, ← hi]; rfl)
  | [o, a, b], ⟨hn, hi⟩ => exact (decode_of_complete (by simp [hn])).trans (by rw [hn, ← hi]; rfl)

/-- The tables' two listings agree: the fields of each row's opcode select the row's instruction, and a 16-bit operand
is put together again from its halves. -/
theorem decodesTo_encode (i : Instr) (h : WellFormed i = true) : DecodesTo i (encode i) := by
  cases i
  case prefix_cb => cases h
  case ld_bc_n16 n | ld_de_n16 n | ld_hl_n16 n | ld_sp_n16 n | ld_atA16_sp n | ld_atA16_a n | ld_a_atA16 n |
      jp_a16 n | jp_nz_a16 n | jp_z_a16 n | jp_nc_a16 n | jp_c_a16 n |
      call_a16 n | call_nz_a16 n | call_z_a16 n | call_nc_a16 n | call_c_a16 n =>
    exact ⟨rfl, congrArg _ (mkWord_hi_lo n)⟩
  all_goals exact ⟨rfl, by intros; rfl⟩

/-! ## O1 to O4 -/

/-- Settles O1: each row's bytes decode to the row's instruction, whatever follows them. -/
theorem decodeEncodeRoundTrip : Obligations.DecodeEncodeRoundTrip :=
  fun i rest h => decode_append_of_decodesTo (decodesTo_encode i h) rest

/-- Settles O2: the list was long enough, so its first bytes are the instruction's and the others are the rest. -/
theorem decodedBytesAreTheEncoding : Obligations.DecodedBytesAreTheEncoding := by
  intro bs i rest h
  cases bs with
  | nil => cases h
  | cons o bs =>
    by_cases hl : instrLength o ≤ bs.length + 1
    · obtain ⟨j, hj, hwf, henc⟩ := exists_decode_eq hl
      rw [hj] at h
      cases h
      rw [henc, ← List.drop_cons (instrLength_bounds o).1, List.take_append_drop]
      exact ⟨hwf, rfl⟩
    · rw [decode_of_truncated (Nat.lt_of_not_le hl)] at h
      cases h

/-- Settles O3 by evaluating the decoder on the words. -/
theorem specWordsDecode : Obligations.SpecWordsDecode := by
  unfold Obligations.SpecWordsDecode
  and_intros <;> rfl

/-- Settles O4: the two lists share no byte, and a list long enough decodes to an instruction of its first bytes. -/
theorem lengthFromFirstByte : Obligations.LengthFromFirstByte := by
  intro o rest
  obtain ⟨h3, h2, -⟩ := length_by_class (threeByte_not_twoByte o)
  refine ⟨h3, h2, instrLength_bounds o, fun h => ?_, decode_of_truncated⟩
  obtain ⟨i, hi, -, henc⟩ := exists_decode_eq h
  refine ⟨i, hi, ?_, ?_⟩
  · rw [henc, List.length_take_of_le h]
  · rw [henc, List.head?_take, if_neg (Nat.ne_of_gt (instrLength_bounds o).1)]
    rfl

end Sys2Proof.Machine
end

section
/-! PROOF. Loads, stores and the stack (40 R200 to R224): the encodings by the decoder, each shared operation on a bus
access whose outcome is known, and what a push and a pop leave. -/

namespace Sys2Proof.Machine

open Sys2Proof.Claims

/-! ## The encodings of the loads (30 R174) -/

theorem encodes_of_hasBytes {i : Instr} {bs : List Byte} (h : HasBytes i bs) : Encodes bs i := by
  obtain ⟨hwf, rfl⟩ := h
  have h := decodeEncodeRoundTrip i [] hwf
  rwa [List.append_nil] at h

theorem r8Bits_toR8 (q : Reg8) : r8Bits q.toR8 = regBits q := by cases q <;> rfl

theorem r8OfCode_r8Bits (r : R8) : r8OfCode (r8Bits r) = r := by cases r <;> rfl

/-- Row x = 1 of the table: LD of every pair of accessors (and HALT, where both are (HL)). -/
theorem encodes_ldInstr (p r : R8) : Encodes [0b01#2 ++ r8Bits p ++ r8Bits r] (ldInstr p r) := by
  have h := hasBytes_ldInstr (r8Bits p) (r8Bits r)
  rw [r8OfCode_r8Bits, r8OfCode_r8Bits] at h
  exact encodes_of_hasBytes h

/-! ## Registers and pairs read back (10 R20 to R24) -/

theorem getReg_setReg_eq (q r : Reg8) (v : Byte) (s : State) :
    getReg r (setReg q v s) = if r = q then v else getReg r s := by
  split_ifs with h
  · rw [h, getReg_setReg]
  · exact getReg_setReg_ne r q v s h

theorem getRr_setRr (p : Rr) (v : Word) (s : State) : getRr p (setRr p v s) = v := by
  cases p with
  | sp => rfl
  | _ => exact mkWord_hi_lo v

theorem getRr_setRr_ne {p q : Rr} (v : Word) (s : State) (h : q ≠ p) : getRr q (setRr p v s) = getRr q s := by
  cases p <;> cases q
  case bc.bc | de.de | hl.hl | sp.sp => exact absurd rfl h
  all_goals rfl

theorem getHL_eq_of_cpu_eq {s t : State} (h : t.cpu = s.cpu) : getHL t = getHL s := by
  rw [getHL, h, getHL]

/-! ## LD HL,SP+e8 (40 R222) -/

theorem sext16_eq_ofInt (e : Byte) : sext16 e = BitVec.ofInt 16 e.toInt := rfl

theorem addSp_fst (sp : Word) (e : Byte) : (addSp sp e).1 = BitVec.ofInt 16 (sp.toNat + e.toInt) := by
  rw [BitVec.ofInt_add, BitVec.ofInt_natCast, BitVec.ofNat_toNat, BitVec.setWidth_eq, ← sext16_eq_ofInt]
  rfl

theorem addSp_snd (sp : Word) (e : Byte) : (addSp sp e).2 =
    { z := false, n := false, h := decide ((sp.toNat &&& 0x0F) + (e.toNat &&& 0x0F) > 0x0F),
      c := decide ((sp.toNat &&& 0xFF) + e.toNat > 0xFF) } := by
  rw [Nat.and_two_pow_sub_one_eq_mod _ 4, Nat.and_two_pow_sub_one_eq_mod _ 4, Nat.and_two_pow_sub_one_eq_mod _ 8]
  rfl

/-- Settles O42: the encodings by the decoder's table, each load by its shared operation, and the pairs and registers by
cases. -/
theorem registerLoads : Obligations.RegisterLoads := by
  refine ⟨fun q r => ?_, fun q n => ?_, fun p lo hi => ?_, rfl, fun e => rfl, exec_ld, exec_ld_imm, exec_ld_rr,
    fun s => rfl, fun e s => ?_, getReg_setReg_eq, fun p q v s => ?_⟩
  · rw [← r8Bits_toR8, ← r8Bits_toR8]
    exact encodes_ldInstr _ _
  · cases q <;> rfl
  · cases p <;> rfl
  · rw [← addSp_fst, ← addSp_snd]
    rfl
  · split_ifs with h
    · rw [h, getRr_setRr]
    · exact getRr_setRr_ne v s h

/-! ## The loads from memory (40 R202 to R218) -/

section

variable {s : State} {r : ReadBits} {e : Fault}

theorem ldRegAt_of_peek {a : Word} (q : Reg8) (n : Nat) (h : peek a s = .ok r) :
    ldRegAt q a n s = .next { setReg q (readValue r s) (afterRead r s) with cost := n } := by
  rw [ldRegAt, busRead_of_peek h]
  rfl

theorem ldRegAt_of_error {a : Word} (q : Reg8) (n : Nat) (h : peek a s = .error e) :
    ldRegAt q a n s = .next { s with fault := some e } := by
  rw [ldRegAt, busRead_of_error h]
  rfl

theorem loadAStep_of_peek (w : Word) (h : peek (getHL s) s = .ok r) :
    loadAStep w s =
      .next { setRr .hl (getHL s + w) (afterRead r s) with cpu.a := readValue r s, cost := 8 } := by
  have hHL := getHL_eq_of_cpu_eq (afterRead_cpu r s)
  rw [loadAStep, busRead_of_peek h, Res.then_ok, hHL]
  rfl

theorem loadAStep_of_error (w : Word) (h : peek (getHL s) s = .error e) :
    loadAStep w s = .next { s with fault := some e } := by
  rw [loadAStep, busRead_of_error h]
  rfl

end

theorem loadsFrom_of_exec {i : Instr} {q : Reg8} {a : State → Word} {n : Nat}
    (h : ∀ s, exec i s = ldRegAt q (a s) n s) : LoadsFrom i q a n :=
  fun s => ⟨fun _ hr => (h s).trans (ldRegAt_of_peek q n hr), fun _ he => (h s).trans (ldRegAt_of_error q n he)⟩

/-- Settles O43: each load is one bus read, and the stepping forms move HL after it. -/
theorem memoryLoads : Obligations.MemoryLoads := by
  refine ⟨fun q => ?_, rfl, rfl, rfl, rfl, rfl, fun n => rfl, fun lo hi => rfl,
    fun q => loadsFrom_of_exec (exec_ld_atHL q), loadsFrom_of_exec fun s => rfl, loadsFrom_of_exec fun s => rfl,
    fun a => loadsFrom_of_exec fun s => rfl, fun n => loadsFrom_of_exec fun s => ?_, loadsFrom_of_exec fun s => ?_,
    fun s r hr => ⟨loadAStep_of_peek 1 hr, ?_⟩, fun s e he => ⟨loadAStep_of_error 1 he, loadAStep_of_error (-1) he⟩⟩
  · rw [← r8Bits_toR8]
    exact encodes_ldInstr q.toR8 .atHL
  · rw [← highPage_eq]
    rfl
  · rw [← highPage_eq]
    rfl
  · rw [BitVec.sub_eq_add_neg]
    exact loadAStep_of_peek (-1) hr

/-! ## The stores of a byte (40 R203 to R216) -/

section

variable {s t : State} {e : Fault}

theorem storeAt_of_ok {a : Word} {v : Byte} (n : Nat) (h : busWrite a v s = .ok () t) :
    storeAt a v n s = .next { t with cost := n } := by
  rw [storeAt, h]
  rfl

theorem storeAt_of_stop {a : Word} {v : Byte} (n : Nat) (h : busWrite a v s = .stop e t) :
    storeAt a v n s = .next { t with fault := some e } := by
  rw [storeAt, h]
  rfl

theorem storeAStep_of_ok (w : Word) (h : busWrite (getHL s) s.cpu.a s = .ok () t) (hcpu : t.cpu = s.cpu) :
    storeAStep w s = .next { setRr .hl (getHL s + w) t with cost := 8 } := by
  rw [storeAStep, h, Res.then_ok, getHL_eq_of_cpu_eq hcpu]
  rfl

theorem storeAStep_of_stop (w : Word) (h : busWrite (getHL s) s.cpu.a s = .stop e t) :
    storeAStep w s = .next { t with fault := some e } := by
  rw [storeAStep, h]
  rfl

end

theorem storesAt_of_exec {i : Instr} {a : State → Word} {v : State → Byte} {n : Nat}
    (h : ∀ s, exec i s = storeAt (a s) (v s) n s) : StoresAt i a v n := by
  refine fun s => ⟨fun hw => ?_, fun e t ht => (h s).trans (storeAt_of_stop n ht)⟩
  obtain ⟨t, ht, hkeeps⟩ := busWrite_of_writable hw
  exact ⟨t, ht, hkeeps.cpu, hkeeps.fault, (h s).trans (storeAt_of_ok n ht)⟩

/-- Settles O44: each store is one bus write, which keeps the registers and completes where it is allowed. -/
theorem memoryStores : Obligations.MemoryStores := by
  refine ⟨fun q => ?_, fun n => ⟨rfl, rfl⟩, rfl, rfl, rfl, rfl, rfl, fun lo hi => rfl,
    fun q => storesAt_of_exec (exec_st_atHL q), fun n => storesAt_of_exec fun s => rfl, storesAt_of_exec fun s => rfl,
    storesAt_of_exec fun s => rfl, fun a => storesAt_of_exec fun s => rfl, fun n => storesAt_of_exec fun s => ?_,
    storesAt_of_exec fun s => ?_, fun s hw => ?_,
    fun s t e he => ⟨storeAStep_of_stop 1 he, storeAStep_of_stop (-1) he⟩⟩
  · rw [← r8Bits_toR8]
    exact encodes_ldInstr .atHL q.toR8
  · rw [← highPage_eq]
    rfl
  · rw [← highPage_eq]
    rfl
  · obtain ⟨t, ht, hkeeps⟩ := busWrite_of_writable hw
    refine ⟨t, ht, hkeeps.cpu, hkeeps.fault, storeAStep_of_ok 1 ht hkeeps.cpu, ?_⟩
    rw [BitVec.sub_eq_add_neg]
    exact storeAStep_of_ok (-1) ht hkeeps.cpu

/-! ## PUSH and LD (a16),SP (40 R220, R223, 20 R102) -/

section

variable {v : Word} {s t : State} {e : Fault}

theorem push16_of_pushes (h : Pushes v s t) : push16 v s = .ok () t := by
  obtain ⟨u, hhi, hlo⟩ := h
  exact (push16_second hhi).trans hlo

theorem push16_of_pushStops (h : PushStops v s e t) : push16 v s = .stop e t := by
  obtain hhi | ⟨u, hhi, hlo⟩ := h
  · exact push16_first_stop hhi
  · exact (push16_second hhi).trans hlo

/-- Two writes that raise no fault are a push, which moves SP alone of the registers; `writable` reads no register. -/
theorem exists_pushes_of_pushOk (h : PushOk v s) :
    ∃ t, Pushes v s t ∧ t.cpu = { s.cpu with sp := s.cpu.sp - 2 } := by
  obtain ⟨hhi, hlo⟩ := h
  obtain ⟨u, hu, hukeeps⟩ := busWrite_of_writable (s := setSp (s.cpu.sp - 1) s) hhi
  obtain ⟨t, ht, htkeeps⟩ := busWrite_of_writable (s := setSp (s.cpu.sp - 2) u) (hlo u hu)
  refine ⟨t, ⟨u, hu, ht⟩, htkeeps.cpu.trans ?_⟩
  rw [setSp, hukeeps.cpu]
  rfl

end

theorem storeSp_of_first_stop {a : Word} {s t : State} {e : Fault} (h : busWrite a (loByte s.cpu.sp) s = .stop e t) :
    storeSp a s = .next { t with fault := some e } := by
  rw [storeSp, h]
  rfl

/-- LD (a16),SP after its first write. -/
theorem storeSp_second {a : Word} {s u : State} (h : busWrite a (loByte s.cpu.sp) s = .ok () u) :
    storeSp a s = ((busWrite (a + 1) (hiByte s.cpu.sp) u).then fun _ t => spend 20 t).outcome := by
  have hkeeps := busWrite_keeps a (loByte s.cpu.sp) s
  rw [h] at hkeeps
  have hcpu : u.cpu = s.cpu := hkeeps.cpu
  rw [storeSp, h, Res.bind_ok, hcpu]

/-- Settles O46: a push and LD (a16),SP are two bus writes in a row, and neither write changes a register. -/
theorem pushAndStoreSp : Obligations.PushAndStoreSp := by
  refine ⟨fun p => ?_, fun lo hi => rfl, fun p s t e h => ?_, fun a s t e h => storeSp_of_first_stop h,
    fun a s u t e hu ht => ?_, fun p s h => ?_, fun a s hlo hhi => ?_, fun s => rfl, fun s => ⟨rfl, rfl, rfl⟩⟩
  · cases p <;> rfl
  · rw [exec_push, pushPair, push16_of_pushStops h]
    rfl
  · exact (storeSp_second hu).trans (by rw [ht]; rfl)
  · obtain ⟨t, ht, hcpu⟩ := exists_pushes_of_pushOk h
    refine ⟨t, ht, hcpu, ?_⟩
    rw [exec_push, pushPair, push16_of_pushes ht]
    rfl
  · obtain ⟨u, hu, hukeeps⟩ := busWrite_of_writable hlo
    obtain ⟨t, ht, htkeeps⟩ := busWrite_of_writable (hhi u hu)
    exact ⟨u, t, hu, ht, htkeeps.cpu.trans hukeeps.cpu, (storeSp_second hu).trans (by rw [ht]; rfl)⟩

/-! ## POP (40 R224, 20 R102) -/

section

variable {v : Word} {s t : State} {e : Fault}

theorem pop16_of_pops (h : Pops s v t) : pop16 s = .ok v t := by
  obtain ⟨lo, hi, hlo, hhi, rfl, rfl⟩ := h
  exact pop16_ok hlo hhi

theorem pop16_of_popStops (h : PopStops s e t) : pop16 s = .stop e t := by
  obtain ⟨hlo, rfl⟩ | ⟨lo, hlo, hhi, rfl⟩ := h
  · exact pop16_first_stop hlo
  · exact pop16_second_stop hlo hhi

theorem exists_pops_of_popOk (h : PopOk s) : ∃ v t, Pops s v t := by
  obtain ⟨hrlo, hrhi⟩ := h
  obtain ⟨lo, hlo⟩ := readable_iff.mp hrlo
  obtain ⟨hi, hhi⟩ := readable_iff.mp hrhi
  exact ⟨_, _, lo, hi, hlo, hhi, rfl, rfl⟩

theorem exec_pop_of_pops (p : Qq) (h : Pops s v t) : exec (popInstr p) s = .next { setQq p v t with cost := 12 } := by
  rw [exec_pop, popPair, pop16_of_pops h]
  rfl

/-- Bytes that are all stored are popped without a draw. -/
theorem pops_of_stored {hi lo : Byte} (hlo : peek s.cpu.sp s = .ok ⟨lo, 0x00⟩)
    (hhi : peek (s.cpu.sp + 1) s = .ok ⟨hi, 0x00⟩) :
    Pops s (mkWord hi lo) { s with cpu.sp := s.cpu.sp + 2 } := by
  have hvalue : ∀ (b : Byte) (u : State), readValue ⟨b, 0x00⟩ u = b := fun b u => by simp [readValue]
  refine ⟨_, _, hlo, hhi, ?_, rfl⟩
  rw [hvalue, hvalue]

end

/-! ## Pairs popped and read back (10 R22, R24) -/

/-- F holds the high nibble of the byte written to it (10 R22). -/
theorem Flags.toByte_ofByte (b : Byte) : (Flags.ofByte b).toByte = b &&& 0xF0 := by
  revert b
  decide

theorem getQq_setQq {p : Qq} (v : Word) (s : State) (h : p ≠ .af) : getQq p (setQq p v s) = v := by
  cases p with
  | af => exact absurd rfl h
  | _ => exact mkWord_hi_lo v

theorem getQq_setQq_af (v : Word) (s : State) : getQq .af (setQq .af v s) = v &&& 0xFFF0 := by
  have hmask : mkWord (hiByte v) (loByte v &&& 0xF0) = mkWord (hiByte v) (loByte v) &&& mkWord 0xFF 0xF0 := by
    rw [mkWord, mkWord, mkWord, BitVec.and_append, show hiByte v &&& 0xFF = hiByte v from BitVec.and_allOnes]
  calc getQq .af (setQq .af v s)
      = mkWord (hiByte v) (loByte v &&& 0xF0) := congrArg (mkWord (hiByte v)) (Flags.toByte_ofByte _)
    _ = v &&& 0xFFF0 := by rw [hmask, mkWord_hi_lo]; rfl

theorem getQq_setQq_ne {p q : Qq} (v : Word) (s : State) (h : p ≠ q) : getQq q (setQq p v s) = getQq q s := by
  cases p <;> cases q
  case bc.bc | de.de | hl.hl | af.af => exact absurd rfl h
  all_goals rfl

/-- Writing a pair of table qq changes the CPU's registers alone. -/
theorem setQq_eq_withCpu (q : Qq) (v : Word) (s : State) : setQq q v s = { s with cpu := (setQq q v s).cpu } := by
  cases q <;> rfl

/-- SP is no part of the pairs of table qq. -/
theorem setQq_cpu_of_cpu_eq {s t : State} {x : Word} (q : Qq) (v : Word) (h : t.cpu = { s.cpu with sp := x }) :
    (setQq q v t).cpu = { (setQq q v s).cpu with sp := x } := by
  cases q <;> simp only [setQq, setRr, setHL, h]

/-! ## What is pushed is popped -/

/-- PUSH's clause of the frame of the stores (O45). -/
theorem wordFrameOf_push (p : Qq) :
    WordFrameOf (pushInstr p) (·.cpu.sp - 2) (getQq p) fun s => { s.cpu with sp := s.cpu.sp - 2 } := by
  obtain ⟨-, -, -, -, -, -, -, -, -, -, -, -, -, -, hpush, -⟩ := storeFrame
  exact hpush p

/-- POP of the word stored at SP: the pair and SP are written, and every address reads as before. -/
theorem exec_pop_of_stored (q : Qq) {v : Word} {s : State} (hlo : peek s.cpu.sp s = .ok ⟨loByte v, 0x00⟩)
    (hhi : peek (s.cpu.sp + 1) s = .ok ⟨hiByte v, 0x00⟩) :
    ∃ u, exec (popInstr q) s = .next u ∧ u.cpu = { (setQq q v s).cpu with sp := s.cpu.sp + 2 } ∧
      ∀ x, peek x u = peek x s := by
  have hpops := pops_of_stored hlo hhi
  rw [mkWord_hi_lo] at hpops
  refine ⟨_, exec_pop_of_pops q hpops, setQq_cpu_of_cpu_eq q v rfl, fun x => ?_⟩
  rw [setQq_eq_withCpu]
  rfl

/-- Settles O47: a pop is two bus reads in a row, which after a push find the stored bytes, by the frame of PUSH (O45). -/
theorem popAndWhatWasPushed : Obligations.PopAndWhatWasPushed := by
  refine ⟨fun p => ?_, fun p s t e h => ?_, fun p s h => ?_, fun p v s h => getQq_setQq v s h, getQq_setQq_af,
    fun p q v s h => getQq_setQq_ne v s h, fun p q s c d hs hc hd hne hbc hbd => ?_⟩
  · cases p <;> rfl
  · rw [exec_pop, popPair, pop16_of_popStops h]
    rfl
  · obtain ⟨v, t, ht⟩ := exists_pops_of_popOk h
    exact ⟨v, t, ht, exec_pop_of_pops p ht⟩
  · have hsp : s.cpu.sp - 2 + 1 = s.cpu.sp - 1 := by bv_omega
    obtain ⟨t, hpush, hcpu, hlo, hhi, hother, -, -⟩ :=
      wordFrameOf_push p s d c hs hd (by rwa [hsp]) hne.symm hbd hbc
    have htsp : t.cpu.sp = s.cpu.sp - 2 := by rw [hcpu]
    obtain ⟨u, hpop, hucpu, hpeek⟩ := exec_pop_of_stored q (v := getQq p s) (s := t)
      (by rw [htsp]; exact hlo _ hd) (by rw [htsp, hsp]; exact hhi _ hc)
    have hback : t.cpu.sp + 2 = s.cpu.sp := by rw [htsp, BitVec.sub_add_cancel]
    rw [hback, setQq_cpu_of_cpu_eq q _ hcpu] at hucpu
    refine ⟨t, u, hpush, hpop, by rw [hucpu], hucpu, ?_, ?_, fun x hxc hxd => ?_⟩
    · rw [hpeek, hhi _ hc]
    · rw [hpeek, hlo _ hd]
    · rw [hpeek, hother x hxd hxc]

end Sys2Proof.Machine
end

section
/-! PROOF. 8-bit arithmetic and logic (41 R250 to R266): the encodings by the decoder, the three forms of an ALU
operation from its effect on A and F, and the flags and results as integers. -/

namespace Sys2Proof.Machine

open Sys2Proof.Claims

/-! ## The encodings (30 R174) -/

theorem aluOfCode_aluBits (op : AluOp) : aluOfCode (aluBits op) = op := by cases op <;> rfl

/-- Row x = 2 of the table: each ALU operation with each accessor. -/
theorem encodes_aluInstr (op : AluOp) (r : R8) : Encodes [0b10#2 ++ aluBits op ++ r8Bits r] (aluInstr op r) := by
  have h := hasBytes_aluInstr (aluBits op) (r8Bits r)
  rw [aluOfCode_aluBits, r8OfCode_r8Bits] at h
  exact encodes_of_hasBytes h

/-! ## The three forms of an ALU operation (41 R250) -/

theorem aluAtHL_of_peek (op : AluOp) {s : State} {r : ReadBits} (h : peek (getHL s) s = .ok r) :
    aluAtHL op s = .next { aluApply op (readValue r s) (afterRead r s) with cost := 8 } := by
  rw [aluAtHL, busRead_of_peek h]
  rfl

theorem aluAtHL_of_error (op : AluOp) {s : State} {e : Fault} (h : peek (getHL s) s = .error e) :
    aluAtHL op s = .next { s with fault := some e } := by
  rw [aluAtHL, busRead_of_error h]
  rfl

theorem aluForms_aluApply (op : AluOp) : AluForms op (aluApply op) := by
  refine ⟨fun q => ?_, encodes_aluInstr op .atHL, fun n => ?_, exec_alu op, exec_alu_imm op, fun s r h => ?_,
    fun s e h => ?_⟩
  · rw [← r8Bits_toR8]
    exact encodes_aluInstr op q.toR8
  · cases op <;> rfl
  · rw [exec_alu_atHL, aluAtHL_of_peek op h]
  · rw [exec_alu_atHL, aluAtHL_of_error op h]

/-- An ALU operation has its rule's three forms when its effect on A and F is the rule's. -/
theorem aluForms_of_aluApply {op : AluOp} {eff : Byte → State → State} (h : ∀ v s, aluApply op v s = eff v s) :
    AluForms op eff := by
  rw [← funext₂ h]
  exact aluForms_aluApply op

/-! ## ADD and ADC (41 R251, R252) -/

theorem and_low_nibble (n : Nat) : n &&& 0x0F = n % 16 := Nat.and_two_pow_sub_one_eq_mod n 4

theorem and_low_byte (n : Nat) : n &&& 0xFF = n % 256 := Nat.and_two_pow_sub_one_eq_mod n 8

theorem setFlags_setA_add8 (c : State → Bool) (v : Byte) (s : State) :
    setFlags (add8 s.cpu.a v (c s)).2 (setA (add8 s.cpu.a v (c s)).1 s) = addEffect c v s := by
  have hmod (n : Nat) : BitVec.ofNat 8 (n % 256) = BitVec.ofNat 8 n := BitVec.eq_of_toNat_eq (by simp)
  simp only [addEffect, and_low_nibble, and_low_byte, hmod]
  rfl

/-- Settles O33: the sum and its flags are the rule's, the masks being remainders. -/
theorem addAndAdc : Obligations.AddAndAdc :=
  ⟨aluForms_of_aluApply (setFlags_setA_add8 fun _ => false),
   aluForms_of_aluApply (setFlags_setA_add8 fun s => s.cpu.f.c)⟩

/-! ## SUB, SBC and CP (41 R253, R254, R258) -/

theorem ofInt_emod_256 (i : Int) : BitVec.ofInt 8 (i % 256) = BitVec.ofInt 8 i :=
  BitVec.eq_of_toNat_eq (by simp)

theorem ofInt_eq_zero_iff (i : Int) : BitVec.ofInt 8 i = 0 ↔ i % 256 = 0 := by
  rw [← BitVec.toNat_inj, BitVec.toNat_ofInt]
  change (i % 256).toNat = 0 ↔ _
  omega

theorem sub8_eq (a v : Byte) (c : Bool) :
    sub8 a v c = (BitVec.ofInt 8 (((a.toNat : Int) - v.toNat - c.toNat) % 256), subFlags a v c) := by
  simp only [sub8, subFlags, ofInt_emod_256, ofInt_eq_zero_iff, and_low_nibble]
  rfl

theorem setFlags_setA_sub8 (c : State → Bool) (v : Byte) (s : State) :
    setFlags (sub8 s.cpu.a v (c s)).2 (setA (sub8 s.cpu.a v (c s)).1 s) = subEffect c v s := by
  rw [sub8_eq]
  rfl

/-- Settles O34: the difference and its flags are the rule's, and CP drops the difference. -/
theorem subSbcAndCp : Obligations.SubSbcAndCp := by
  refine ⟨aluForms_of_aluApply (setFlags_setA_sub8 fun _ => false),
    aluForms_of_aluApply (setFlags_setA_sub8 fun s => s.cpu.f.c), aluForms_of_aluApply fun v s => ?_⟩
  rw [aluApply, sub8_eq]
  rfl

/-! ## AND, XOR and OR (41 R255 to R257) -/

/-- Settles O35: each operation sets A and F as the rule does. -/
theorem andXorAndOr : Obligations.AndXorAndOr :=
  ⟨aluForms_of_aluApply fun _ _ => rfl, aluForms_of_aluApply fun _ _ => rfl, aluForms_of_aluApply fun _ _ => rfl⟩

/-! ## INC and DEC (41 R259 to R262) -/

/-- What a write can do depends on no register and no draw. -/
theorem writable_setFlags_afterRead (a : Word) (v : Byte) (r : ReadBits) (s : State) (f : Flags) :
    writable a v { afterRead r s with cpu.f := f } = writable a v s := by
  rw [afterRead_eq]
  rfl

section

variable {s t : State} {r : ReadBits} {e : Fault}

/-- INC (HL) and DEC (HL) once the byte is read: the flags, then the write of the same address. -/
theorem modifyAtHL_of_peek (f : Byte → Flags → Byte × Flags) (h : peek (getHL s) s = .ok r) :
    modifyAtHL f s = ((busWrite (getHL s) (f (readValue r s) s.cpu.f).1
      { afterRead r s with cpu.f := (f (readValue r s) s.cpu.f).2 }).then fun _ => spend 12).outcome := by
  rw [modifyAtHL, busRead_of_peek h, Res.bind_ok, getHL_eq_of_cpu_eq (afterRead_cpu r s), afterRead_cpu]
  rfl

theorem modifyAtHL_of_error (f : Byte → Flags → Byte × Flags) (h : peek (getHL s) s = .error e) :
    modifyAtHL f s = .next { s with fault := some e } := by
  rw [modifyAtHL, busRead_of_error h]
  rfl

theorem modifyAtHL_of_writable (f : Byte → Flags → Byte × Flags) (h : peek (getHL s) s = .ok r)
    (hw : writable (getHL s) (f (readValue r s) s.cpu.f).1 s = true) :
    ∃ t, busWrite (getHL s) (f (readValue r s) s.cpu.f).1
        { afterRead r s with cpu.f := (f (readValue r s) s.cpu.f).2 } = .ok () t ∧
      modifyAtHL f s = .next { t with cost := 12 } := by
  rw [← writable_setFlags_afterRead _ _ r s _] at hw
  obtain ⟨t, ht, -⟩ := busWrite_of_writable hw
  refine ⟨t, ht, ?_⟩
  rw [modifyAtHL_of_peek f h, ht]
  rfl

theorem modifyAtHL_of_stop (f : Byte → Flags → Byte × Flags) (h : peek (getHL s) s = .ok r)
    (hw : busWrite (getHL s) (f (readValue r s) s.cpu.f).1
        { afterRead r s with cpu.f := (f (readValue r s) s.cpu.f).2 } = .stop e t) :
    modifyAtHL f s = .next { t with fault := some e } := by
  rw [modifyAtHL_of_peek f h, hw]
  rfl

end

theorem spend_setReg_setFlags (n : Nat) (q : Reg8) (v : Byte) (f : Flags) (s : State) :
    spend n (setReg q v (setFlags f s)) = { setReg q v s with cpu.f := f, cost := n } := by
  cases q <;> rfl

/-- Settles O36: the register forms write a register and F, and the (HL) forms are one read and one write. -/
theorem incrementAndDecrement : Obligations.IncrementAndDecrement := by
  refine ⟨fun q => ⟨?_, ?_⟩, rfl, rfl, fun q s => ⟨?_, ?_⟩, fun s r v h hv => ?_,
    fun s e h => ⟨modifyAtHL_of_error inc8 h, modifyAtHL_of_error dec8 h⟩⟩
  · cases q <;> rfl
  · cases q <;> rfl
  · rw [exec_inc, incReg, spend_setReg_setFlags, inc8_eq]
  · rw [exec_dec, decReg, spend_setReg_setFlags, dec8_eq]
  · subst hv
    have hinc := inc8_eq (readValue r s) s.cpu.f
    have hdec := dec8_eq (readValue r s) s.cpu.f
    refine ⟨fun hw => ?_, fun hw => ?_, fun e t => ⟨fun hw => ?_, fun hw => ?_⟩⟩
    · have ht := modifyAtHL_of_writable inc8 h
      rw [hinc] at ht
      exact ht hw
    · have ht := modifyAtHL_of_writable dec8 h
      rw [hdec] at ht
      exact ht hw
    · exact modifyAtHL_of_stop inc8 h (by rw [hinc]; exact hw)
    · exact modifyAtHL_of_stop dec8 h (by rw [hdec]; exact hw)

/-! ## DAA, CPL, SCF and CCF (41 R263 to R266) -/

/-- The two halves of DAA's adjustment share no bit. -/
theorem daaAdjust_halves (p q : Prop) [Decidable p] [Decidable q] :
    ((if p then 0x60 else 0x00) ||| (if q then 0x06 else 0x00) : Byte) =
      BitVec.ofNat 8 ((if p then 0x60 else 0) + (if q then 0x06 else 0)) := by
  split_ifs <;> rfl

theorem add_ofNat_eq (a : Byte) (k : Nat) : a + BitVec.ofNat 8 k = BitVec.ofNat 8 (a.toNat + k) := by
  rw [BitVec.ofNat_add, BitVec.ofNat_toNat, BitVec.setWidth_eq]

theorem sub_ofNat_eq (a : Byte) (k : Nat) : a - BitVec.ofNat 8 k = BitVec.ofInt 8 (a.toNat - k) := by
  rw [Int.sub_eq_add_neg, BitVec.ofInt_add, BitVec.ofInt_neg, BitVec.ofInt_natCast, BitVec.ofInt_natCast,
    BitVec.ofNat_toNat, BitVec.setWidth_eq, BitVec.sub_eq_add_neg]

theorem daa_eq (a : Byte) (f : Flags) :
    daa a f = ((daaSpec a f).1,
      { z := decide ((daaSpec a f).1 = 0), n := f.n, h := false, c := (daaSpec a f).2 }) := by
  cases hn : f.n
  · simp only [daa, daaAdjust, daaSpec, hn, Bool.false_eq_true, if_false, daaAdjust_halves, add_ofNat_eq,
      and_low_nibble]
    rfl
  · simp only [daa, daaAdjust, daaSpec, hn, if_true, daaAdjust_halves, sub_ofNat_eq]
    push_cast
    rfl

/-- Settles O37: DAA's adjustment is the rule's integer, and CPL's XOR with 0xFF is the complement. -/
theorem daaCplScfCcf : Obligations.DaaCplScfCcf := by
  refine ⟨rfl, rfl, rfl, rfl, fun s => ⟨?_, ?_, rfl, rfl⟩⟩
  · change execDaa s = _
    rw [execDaa, daa_eq]
    rfl
  · rw [← BitVec.xor_allOnes]
    rfl

/-! ## DAA after an addition or a subtraction of decimal numbers (41 R252, R254, R263) -/

theorem bcd_toNat {x : Nat} (h : x < 100) : (bcd x).toNat = x / 10 * 16 + x % 10 := by
  rw [bcd, BitVec.toNat_ofNat]
  omega

theorem bcd_eq_zero_iff {x : Nat} (h : x < 100) : bcd x = 0 ↔ x = 0 := by
  rw [← BitVec.toNat_inj, bcd_toNat h]
  change _ = 0 ↔ _
  omega

/-- After an addition of BCD numbers, DAA's two tests are the decimal carries out of the two digits. -/
theorem daaSpec_addEffect {x y : Nat} (c : State → Bool) {s : State} (hx : x < 100) (hy : y < 100)
    (ha : s.cpu.a = bcd x) :
    daaSpec (addEffect c (bcd y) s).cpu.a (addEffect c (bcd y) s).cpu.f =
      (bcd ((x + y + (c s).toNat) % 100), decide (100 ≤ x + y + (c s).toNat)) := by
  have hk := (c s).toNat_le
  simp only [daaSpec, addEffect, ha, bcd_toNat hx, bcd_toNat hy, and_low_nibble, and_low_byte,
    Bool.false_eq_true, if_false, BitVec.toNat_ofNat, decide_eq_true_eq, ← Bool.decide_or]
  generalize (c s).toNat = k at hk ⊢
  generalize hr : x / 10 * 16 + x % 10 + (y / 10 * 16 + y % 10) + k = r
  have hhigh : (r > 0xFF ∨ r % 256 % 2 ^ 8 > 0x99) ↔ 100 ≤ x + y + k := by omega
  have hlow : ((x / 10 * 16 + x % 10) % 16 + (y / 10 * 16 + y % 10) % 16 + k > 0x0F ∨ r % 256 % 2 ^ 8 % 16 > 0x09) ↔
      10 ≤ x % 10 + y % 10 + k := by omega
  simp only [hhigh, hlow]
  refine Prod.ext (BitVec.eq_of_toNat_eq ?_) rfl
  rw [BitVec.toNat_ofNat, bcd_toNat (Nat.mod_lt _ (by decide))]
  split_ifs <;> omega

/-- After a subtraction of BCD numbers, the flags C and H are the decimal borrows of the two digits. -/
theorem daaSpec_subEffect {x y : Nat} (c : State → Bool) {s : State} (hx : x < 100) (hy : y < 100)
    (ha : s.cpu.a = bcd x) :
    daaSpec (subEffect c (bcd y) s).cpu.a (subEffect c (bcd y) s).cpu.f =
      (bcd ((x + 100 - y - (c s).toNat) % 100), decide (x < y + (c s).toNat)) := by
  have hk := (c s).toNat_le
  simp only [daaSpec, subEffect, subFlags, ha, bcd_toNat hx, bcd_toNat hy, and_low_nibble, if_true,
    BitVec.toNat_ofInt, decide_eq_true_eq]
  generalize (c s).toNat = k at hk ⊢
  have hhigh : x / 10 * 16 + x % 10 < y / 10 * 16 + y % 10 + k ↔ x < y + k := by omega
  have hlow : (x / 10 * 16 + x % 10) % 16 < (y / 10 * 16 + y % 10) % 16 + k ↔ x % 10 < y % 10 + k := by omega
  simp only [hhigh, hlow]
  refine Prod.ext (BitVec.eq_of_toNat_eq ?_) rfl
  rw [BitVec.toNat_ofInt, bcd_toNat (Nat.mod_lt _ (by decide))]
  split_ifs <;> omega

/-- What DAA leaves where its adjustment gives a two-digit decimal number. -/
theorem exec_daa_of_daaSpec {t : State} {n : Nat} {b : Bool} (cost : Nat) (hn : n < 100)
    (h : daaSpec t.cpu.a t.cpu.f = (bcd n, b)) :
    ∃ u, exec .daa { t with cost := cost } = .next u ∧ u.cpu.a = bcd n ∧ u.cpu.f.c = b ∧
      u.cpu.f.z = decide (n = 0) := by
  obtain ⟨-, -, -, -, hexec⟩ := daaCplScfCcf
  refine ⟨_, (hexec _).1, ?_⟩
  simp only [h, bcd_eq_zero_iff hn, and_self]

theorem exec_imm_of_aluForms {op : AluOp} {eff : Byte → State → State} (h : AluForms op eff) (n : Byte) (s : State) :
    exec (aluImmInstr op n) s = .next { eff n s with cost := 8 } := by
  obtain ⟨-, -, -, -, himm, -⟩ := h
  exact himm n s

/-- Settles O38: the decimal carry or borrow of each digit is what DAA's tests find in A and F. -/
theorem daaGivesDecimalResults : Obligations.DaaGivesDecimalResults := by
  obtain ⟨-, hadc⟩ := addAndAdc
  obtain ⟨-, hsbc, -⟩ := subSbcAndCp
  intro x y s hx hy ha
  constructor
  · obtain ⟨u, hu⟩ := exec_daa_of_daaSpec 8 (Nat.mod_lt _ (by decide))
      (daaSpec_addEffect (fun s => s.cpu.f.c) hx hy ha)
    exact ⟨_, u, exec_imm_of_aluForms hadc (bcd y) s, hu⟩
  · obtain ⟨u, hu⟩ := exec_daa_of_daaSpec 8 (Nat.mod_lt _ (by decide))
      (daaSpec_subEffect (fun s => s.cpu.f.c) hx hy ha)
    exact ⟨_, u, exec_imm_of_aluForms hsbc (bcd y) s, hu⟩

end Sys2Proof.Machine
end

section
/-! PROOF. 16-bit arithmetic (42 R300 to R303): results and flags of the pair operations as integers, and each instruction
by its shared operation. -/

namespace Sys2Proof.Machine

open Sys2Proof.Claims

/-! ## Results and flags as integers -/

/-- Subtracting 1 is adding 0xFFFF, modulo 65536. -/
theorem sub_one_eq_ofNat (v : Word) : v - 1 = BitVec.ofNat 16 (v.toNat + 0xFFFF) := by
  rw [BitVec.sub_eq_add_neg, BitVec.add_def]
  rfl

theorem add16_fst (hl v : Word) (f : Flags) : (add16 hl v f).1 = BitVec.ofNat 16 (hl.toNat + v.toNat) :=
  BitVec.add_def hl v

theorem add16_snd (hl v : Word) (f : Flags) : (add16 hl v f).2 =
    { z := f.z, n := false, h := decide ((hl.toNat &&& 0x0FFF) + (v.toNat &&& 0x0FFF) > 0x0FFF),
      c := decide (hl.toNat + v.toNat > 0xFFFF) } := by
  rw [Nat.and_two_pow_sub_one_eq_mod _ 12, Nat.and_two_pow_sub_one_eq_mod _ 12]
  rfl

/-! ## The instructions -/

/-- The rows of table rr: INC, DEC and ADD HL of each pair (30 R174). -/
theorem encodes_arithmetic16 (p : Rr) :
    Encodes [0b00#2 ++ rrBits p ++ 0b0011#4] (incRrInstr p) ∧
      Encodes [0b00#2 ++ rrBits p ++ 0b1011#4] (decRrInstr p) ∧
      Encodes [0b00#2 ++ rrBits p ++ 0b1001#4] (addHlInstr p) := by
  cases p <;> exact ⟨rfl, rfl, rfl⟩

/-- Settles O39: INC, DEC and ADD HL by the shared operation of their pair, ADD SP by that of LD HL,SP+e8 (O42). -/
theorem arithmetic16 : Obligations.Arithmetic16 := by
  refine ⟨encodes_arithmetic16, fun e => rfl, fun p s => ⟨?_, ?_, ?_⟩, fun e s => ?_⟩
  · rw [exec_incRr, incPair, BitVec.add_def]
    rfl
  · rw [exec_decRr, decPair, sub_one_eq_ofNat]
    rfl
  · rw [exec_addHl, addHlPair, add16_fst, add16_snd]
    rfl
  · rw [← addSp_fst, ← addSp_snd]
    rfl

end Sys2Proof.Machine
end

section
/-! PROOF. Rotates, shifts and bits (43 R330 to R345): the CB table's encodings by its decoder, the one read and one
write of every CB instruction that writes back, and BIT's read without a write. -/

namespace Sys2Proof.Machine

open Sys2Proof.Claims

/-! ## The encodings (30 R175) -/

theorem rotOfCode_rotBits (op : RotOp) : rotOfCode (rotBits op) = op := by cases op <;> rfl

/-- The fields of a byte that is put together of fields (30 R171). -/
theorem fields_append (x : BitVec 2) (y z : BitVec 3) :
    (x ++ y ++ z).extractLsb' 6 2 = x ∧ (x ++ y ++ z).extractLsb' 3 3 = y ∧ (x ++ y ++ z).extractLsb' 0 3 = z := by
  revert x y z
  decide

/-- The CB table by its fields: the quarter `x`, the operation or bit number `y`, and the accessor. -/
theorem encodes_cb (x : BitVec 2) (y : BitVec 3) (r : R8) :
    Encodes [0xCB, x ++ y ++ r8Bits r]
      (if x = 0 then rotInstr (rotOfCode y) r else if x = 1 then bitInstr y r
        else if x = 2 then resInstr y r else setInstr y r) := by
  obtain ⟨hx, hy, hz⟩ := fields_append x y (r8Bits r)
  have h := encodes_of_hasBytes (hasBytes_decodeCb (x ++ y ++ r8Bits r))
  rwa [decodeCb, hx, hy, hz, r8OfCode_r8Bits] at h

theorem encodes_rotInstr (op : RotOp) (r : R8) : Encodes [0xCB, 0b00#2 ++ rotBits op ++ r8Bits r] (rotInstr op r) := by
  have h := encodes_cb 0 (rotBits op) r
  rw [rotOfCode_rotBits] at h
  exact h

/-! ## The accessors (10 R23) and the costs (43 R334) -/

theorem eq_atHL_of_reg_none {r : R8} (h : r.reg = none) : r = .atHL := by
  cases r with
  | atHL => rfl
  | _ => cases h

theorem ne_atHL_of_reg_some {r : R8} {q : Reg8} (h : r.reg = some q) : r ≠ .atHL := by
  rintro rfl
  cases h

theorem get8_of_reg {r : R8} {q : Reg8} (h : r.reg = some q) (s : State) : get8 r s = .ok (getReg q s) s := by
  rw [get8, h]

theorem set8_of_reg {r : R8} {q : Reg8} (h : r.reg = some q) (v : Byte) (s : State) :
    set8 r v s = .ok () (setReg q v s) := by
  rw [set8, h]

theorem get8_atHL_of_peek {s : State} {b : ReadBits} (h : peek (getHL s) s = .ok b) :
    get8 .atHL s = .ok (readValue b s) (afterRead b s) := busRead_of_peek h

theorem get8_atHL_of_error {s : State} {e : Fault} (h : peek (getHL s) s = .error e) :
    get8 .atHL s = .stop e s := busRead_of_error h

/-- The read of an operand leaves HL, so the write-back goes to the same address. -/
theorem set8_atHL_afterRead (v : Byte) (b : ReadBits) (s : State) :
    set8 .atHL v (afterRead b s) = busWrite (getHL s) v (afterRead b s) := by
  rw [← getHL_eq_of_cpu_eq (afterRead_cpu b s)]
  rfl

theorem writable_afterRead (a : Word) (v : Byte) (b : ReadBits) (s : State) :
    writable a v (afterRead b s) = writable a v s := by
  rw [afterRead_eq]
  rfl

/-! ## The CB instructions that write back (43 R334) -/

/-- A read of the operand, a write of `f` of it to the same place, and then the flags `g` of it and the cost: that is
R334's shape. `k`, the last part, may rely on the write having left F alone. -/
theorem readsModifies_of_exec {i : Instr} {r : R8} {f : Byte → Flags → Byte} {g : Byte → Flags → Flags}
    {k : Byte → State → State → State}
    (hexec : ∀ s, exec i s = ((get8 r s).bind fun v t => (set8 r (f v t.cpu.f) t).then fun _ u => k v t u).outcome)
    (hk : ∀ v t u, u.cpu.f = t.cpu.f → k v t u = { u with cpu.f := g v t.cpu.f, cost := cbCost r }) :
    ReadsModifies i r f g := by
  refine ⟨fun q s hq => ?_, fun s b hr hb hw => ?_, fun s e hr he => ?_, fun s t b e hr hb hw => ?_⟩
  · rw [hexec, get8_of_reg hq, Res.bind_ok, set8_of_reg hq, Res.then_ok, Res.outcome_ok,
      hk _ _ _ (setReg_cpu_f q _ s), cbCost, if_neg (ne_atHL_of_reg_some hq)]
  · obtain rfl := eq_atHL_of_reg_none hr
    rw [← writable_afterRead _ _ b s] at hw
    obtain ⟨t, ht, hkeeps⟩ := busWrite_of_writable hw
    refine ⟨t, ht, ?_⟩
    rw [hexec, get8_atHL_of_peek hb, Res.bind_ok, set8_atHL_afterRead, afterRead_cpu, ht, Res.then_ok, Res.outcome_ok,
      hk _ _ _ (congrArg Cpu.f hkeeps.cpu), afterRead_cpu]
    rfl
  · obtain rfl := eq_atHL_of_reg_none hr
    rw [hexec, get8_atHL_of_error he]
    rfl
  · obtain rfl := eq_atHL_of_reg_none hr
    rw [hexec, get8_atHL_of_peek hb, Res.bind_ok, set8_atHL_afterRead, afterRead_cpu, hw]
    rfl

/-- RES and SET set no flag: the F the write leaves is the F before it. -/
theorem spend_eq_withFlags {t u : State} (n : Nat) (h : u.cpu.f = t.cpu.f) :
    spend n u = { u with cpu.f := t.cpu.f, cost := n } := by
  rw [← h]
  rfl

/-! ## Rotates and shifts (43 R330 to R333, R335 to R342) -/

/-- The accumulator rotates rotate as the CB ones do, and clear Z whatever the result. -/
theorem accRotate_rotApply (op : RotOp) (s : State) :
    accRotate (rotApply op s.cpu.a s.cpu.f.c) s = .next { s with
      cpu.a := (rotSpec op s.cpu.a s.cpu.f.c).1, cpu.f := onlyCarry (rotSpec op s.cpu.a s.cpu.f.c).2, cost := 4 } := by
  rw [rotApply_eq_rotSpec]
  rfl

/-- Settles O40: the accumulator rotates are four of the CB operations on A, which are the rule's arithmetic ones. -/
theorem rotatesAndShifts : Obligations.RotatesAndShifts := by
  refine ⟨⟨rfl, rfl, rfl, rfl⟩, encodes_rotInstr, fun s => ⟨accRotate_rotApply .rlc s, accRotate_rotApply .rrc s,
    accRotate_rotApply .rl s, accRotate_rotApply .rr s⟩, fun op r => ?_⟩
  simp only [← rotApply_eq_rotSpec]
  exact readsModifies_of_exec (exec_rot op r) fun v t u _ => rfl

/-! ## BIT, RES and SET (43 R343 to R345) -/

section

variable {r : R8} {s : State}

theorem cbBit_of_reg {q : Reg8} (k : Nat) (h : r.reg = some q) :
    cbBit k r s = .next { s with
      cpu.f := { z := !(getReg q s).getLsbD k, n := false, h := true, c := s.cpu.f.c }, cost := 8 } := by
  rw [cbBit, get8_of_reg h, if_neg (ne_atHL_of_reg_some h)]
  rfl

theorem cbBit_atHL_of_peek {b : ReadBits} (k : Nat) (h : peek (getHL s) s = .ok b) :
    cbBit k .atHL s = .next { afterRead b s with
      cpu.f := { z := !(readValue b s).getLsbD k, n := false, h := true, c := s.cpu.f.c }, cost := 12 } := by
  rw [cbBit, get8_atHL_of_peek h, Res.then_ok, Res.outcome_ok, afterRead_cpu]
  rfl

theorem cbBit_atHL_of_error {e : Fault} (k : Nat) (h : peek (getHL s) s = .error e) :
    cbBit k .atHL s = .next { s with fault := some e } := by
  rw [cbBit, get8_atHL_of_error h]
  rfl

end

/-- Settles O41: RES and SET write back as the rotates do but leave F, and BIT ends with its read. -/
theorem cbBitResSet : Obligations.CbBitResSet := by
  refine fun b r => ⟨encodes_cb 1 b r, encodes_cb 2 b r, encodes_cb 3 b r, ?_,
    readsModifies_of_exec (exec_set b r) fun v t u h => spend_eq_withFlags (cbCost r) h, fun q s hq => ?_,
    fun s x hr hx => ?_, fun s e hr he => ?_⟩
  · simp only [← res8_eq]
    exact readsModifies_of_exec (exec_res b r) fun v t u h => spend_eq_withFlags (cbCost r) h
  · rw [exec_bit, cbBit_of_reg _ hq]
  · obtain rfl := eq_atHL_of_reg_none hr
    rw [exec_bit, cbBit_atHL_of_peek _ hx]
  · obtain rfl := eq_atHL_of_reg_none hr
    rw [exec_bit, cbBit_atHL_of_error _ he]

end Sys2Proof.Machine
end

section
/-! PROOF. Control transfer (44 R370 to R381): the encodings by the decoder, each conditional instruction on both sides
of its condition, and calls and returns on a push or a pop whose outcome is known. -/

namespace Sys2Proof.Machine

open Sys2Proof.Claims

/-! ## The encodings (30 R171, R174) -/

/-- The rows of table cc: JR, JP, CALL and RET of each condition. -/
theorem encodes_conditional (cc : Cond) (lo hi e : Byte) :
    Encodes [0b001#3 ++ ccBits cc ++ 0b000#3, e] (jrCcInstr cc e) ∧
      Encodes [0b110#3 ++ ccBits cc ++ 0b010#3, lo, hi] (jpCcInstr cc (hi ++ lo)) ∧
      Encodes [0b110#3 ++ ccBits cc ++ 0b100#3, lo, hi] (callCcInstr cc (hi ++ lo)) ∧
      Encodes [0b110#3 ++ ccBits cc ++ 0b000#3] (retCcInstr cc) := by
  cases cc <;> exact ⟨rfl, rfl, rfl, rfl⟩

theorem encodes_rstInstr (y : BitVec 3) : Encodes [0b11#2 ++ y ++ 0b111#3] (rstInstr y) := by
  cases y using code_cases <;> rfl

/-! ## The displacement (44 R374) -/

/-- JR adds its displacement to PC as LD HL,SP+e8 adds it to SP (O42). -/
theorem spend_jumpRel (n : Nat) (e : Byte) (s : State) :
    spend n (jumpRel e s) = { s with cpu.pc := BitVec.ofInt 16 (s.cpu.pc.toNat + e.toInt), cost := n } :=
  congrArg (fun pc => spend n (setPc pc s)) (addSp_fst s.cpu.pc e)

/-! ## The conditional instructions (44 R370) -/

section

variable {cc : Cond} {s : State}

theorem jumpIf_of_taken (a : Word) (h : taken cc s) :
    jumpIf cc a s = .next { s with cpu.pc := a, cost := 16 } :=
  congrArg _ (if_pos (condHolds_iff_taken.mpr h))

theorem jumpIf_of_not_taken (a : Word) (h : ¬taken cc s) : jumpIf cc a s = .next { s with cost := 12 } :=
  congrArg _ (if_neg (mt condHolds_iff_taken.mp h))

theorem jumpRelIf_of_taken (e : Byte) (h : taken cc s) : jumpRelIf cc e s =
    .next { s with cpu.pc := BitVec.ofInt 16 (s.cpu.pc.toNat + e.toInt), cost := 12 } := by
  rw [jumpRelIf, if_pos (condHolds_iff_taken.mpr h), spend_jumpRel]

theorem jumpRelIf_of_not_taken (e : Byte) (h : ¬taken cc s) : jumpRelIf cc e s = .next { s with cost := 8 } :=
  congrArg _ (if_neg (mt condHolds_iff_taken.mp h))

theorem callIf_of_taken (a : Word) (h : taken cc s) : callIf cc a s = callAlways a 24 s :=
  if_pos (condHolds_iff_taken.mpr h)

theorem callIf_of_not_taken (a : Word) (h : ¬taken cc s) : callIf cc a s = .next { s with cost := 12 } :=
  if_neg (mt condHolds_iff_taken.mp h)

theorem returnIf_of_taken (h : taken cc s) :
    returnIf cc s = ((returnFromCall s).then fun _ t => spend 20 t).outcome :=
  if_pos (condHolds_iff_taken.mpr h)

theorem returnIf_of_not_taken (h : ¬taken cc s) : returnIf cc s = .next { s with cost := 8 } :=
  if_neg (mt condHolds_iff_taken.mp h)

end

/-- Settles O48: a conditional jump is the unconditional one where its condition holds, and spends its cost where not. -/
theorem jumps : Obligations.Jumps := by
  refine ⟨fun lo hi e cc => ?_, fun s a e cc => ⟨rfl, fun h => ?_, fun h => ?_, rfl, ?_, fun h => ?_, fun h => ?_⟩⟩
  · obtain ⟨hjr, hjp, -⟩ := encodes_conditional cc lo hi e
    exact ⟨rfl, hjp, rfl, rfl, hjr⟩
  · rw [exec_jp_cc, jumpIf_of_taken a h]
  · rw [exec_jp_cc, jumpIf_of_not_taken a h]
  · rw [← spend_jumpRel]
    rfl
  · rw [exec_jr_cc, jumpRelIf_of_taken e h]
  · rw [exec_jr_cc, jumpRelIf_of_not_taken e h]

/-! ## Calls and restarts (44 R376, R377, R380) -/

section

variable {s t : State}

theorem callAlways_of_pushes (a : Word) (n : Nat) (h : Pushes s.cpu.pc s t) :
    callAlways a n s = .next { t with cpu.pc := a, cost := n } := by
  rw [callAlways, callTo, push16_of_pushes h]
  rfl

theorem callAlways_of_pushStops {e : Fault} (a : Word) (n : Nat) (h : PushStops s.cpu.pc s e t) :
    callAlways a n s = .next { t with fault := some e } := by
  rw [callAlways, callTo, push16_of_pushStops h]
  rfl

end

/-- Settles O49: CALL and RST are one shared operation, a push of PC and then the jump to the target. -/
theorem callsAndRestarts : Obligations.CallsAndRestarts := by
  refine ⟨fun lo hi cc y => ?_, fun s t e h => ⟨fun a => ?_, fun cc a hcc => ?_, fun y => ?_⟩, fun s h => ?_,
    fun cc a s hcc => ?_⟩
  · obtain ⟨-, -, hcall, -⟩ := encodes_conditional cc lo hi 0
    exact ⟨rfl, hcall, encodes_rstInstr y⟩
  · exact callAlways_of_pushStops a 24 h
  · rw [exec_call_cc, callIf_of_taken a hcc, callAlways_of_pushStops a 24 h]
  · rw [exec_rst, callAlways_of_pushStops _ 16 h]
  · obtain ⟨t, ht, hcpu⟩ := exists_pushes_of_pushOk h
    refine ⟨t, ht, hcpu, fun a => callAlways_of_pushes a 24 ht, fun cc a hcc => ?_, fun y => ?_⟩
    · rw [exec_call_cc, callIf_of_taken a hcc, callAlways_of_pushes a 24 ht]
    · rw [exec_rst, callAlways_of_pushes _ 16 ht, rstTarget]
  · rw [exec_call_cc, callIf_of_not_taken a hcc]

/-! ## Returns (44 R378, R379, R381) -/

theorem exec_ret (s : State) : exec .ret s = ((returnFromCall s).then fun _ t => spend 16 t).outcome := rfl

theorem exec_reti (s : State) : exec .reti s = ((returnFromInterrupt s).then fun _ t => spend 16 t).outcome := rfl

section

variable {v : Word} {s t : State} {e : Fault}

theorem returnFromCall_of_pops (h : Pops s v t) : returnFromCall s = .ok () (setPc v t) := by
  rw [returnFromCall, pop16_of_pops h, Res.then_ok]

theorem returnFromCall_of_popStops (h : PopStops s e t) : returnFromCall s = .stop e t := by
  rw [returnFromCall, pop16_of_popStops h]
  rfl

end

/-- Settles O50: every return is one pop, and RETI sets IME after it. -/
theorem returns : Obligations.Returns := by
  refine ⟨rfl, rfl, fun cc => ?_, fun s t e h => ⟨?_, ?_, fun cc hcc => ?_⟩, fun s h => ?_, fun cc s hcc => ?_⟩
  · obtain ⟨-, -, -, hret⟩ := encodes_conditional cc 0 0 0
    exact hret
  · rw [exec_ret, returnFromCall_of_popStops h]
    rfl
  · rw [exec_reti, returnFromInterrupt, returnFromCall_of_popStops h]
    rfl
  · rw [exec_ret_cc, returnIf_of_taken hcc, returnFromCall_of_popStops h]
    rfl
  · obtain ⟨v, t, ht⟩ := exists_pops_of_popOk h
    refine ⟨v, t, ht, ?_, ?_, fun cc hcc => ?_⟩
    · rw [exec_ret, returnFromCall_of_pops ht]
      rfl
    · rw [exec_reti, returnFromInterrupt, returnFromCall_of_pops ht]
      rfl
    · rw [exec_ret_cc, returnIf_of_taken hcc, returnFromCall_of_pops ht]
      rfl
  · rw [exec_ret_cc, returnIf_of_not_taken hcc]

end Sys2Proof.Machine
end

section
/-! PROOF. System instructions (45 R400 to R406): the CB prefix runs the instruction of its second byte, STOP on both
sides of its test, and the step that fetches an illegal opcode. -/

namespace Sys2Proof.Machine

open Sys2Proof.Claims

/-! ## The CB prefix (45 R406) -/

/-- The prefix selects by the fields of its byte what the CB table decodes by them. -/
theorem exec_prefix_cb (o : Byte) (s : State) : exec (.prefix_cb o) s = exec (decodeCb o) s := by
  change cbSelected o s = _
  unfold cbSelected decodeCb
  dsimp only
  split_ifs
  · rw [exec_rot]
  · rw [exec_bit]
  · rw [exec_res]
  · rw [exec_set]

/-- The instruction ends in a next state without a fault, PC as it was. -/
def EndsAtPc (i : Instr) (s : State) : Prop := ∃ t, exec i s = .next t ∧ t.fault = none ∧ t.cpu.pc = s.cpu.pc

/-- The operand can be read and written: a register always, the byte at HL where the bus allows both. -/
def OperandOk (r : R8) (s : State) : Prop :=
  r.reg = none → readable (getHL s) s = true ∧ ∀ v, writable (getHL s) v s = true

section

variable {r : R8} {s : State}

/-- A register write and a bus write leave the fault and PC alone, and so do the flags. -/
theorem endsAtPc_of_readsModifies {i : Instr} {f : Byte → Flags → Byte} {g : Byte → Flags → Flags}
    (hi : ReadsModifies i r f g) (hs : s.fault = none) (hop : OperandOk r s) : EndsAtPc i s := by
  obtain ⟨hreg, hmem, -, -⟩ := hi
  cases hr : r.reg with
  | some q => exact ⟨_, hreg q s hr, (setReg_fault q _ s).trans hs, setReg_cpu_pc q _ s⟩
  | none =>
    obtain ⟨hread, hwrite⟩ := hop hr
    obtain ⟨b, hb⟩ := readable_iff.mp hread
    obtain ⟨t, ht, hexec⟩ := hmem s b hr hb (hwrite _)
    have hkeeps := busWrite_keeps (getHL s) (f (readValue b s) s.cpu.f) (afterRead b s)
    rw [ht, Res.state_ok] at hkeeps
    have hpc : t.cpu.pc = s.cpu.pc := by rw [hkeeps.cpu, afterRead_cpu]
    exact ⟨_, hexec, (hkeeps.fault.trans (afterRead_fault b s)).trans hs, hpc⟩

theorem endsAtPc_bitInstr (k : BitVec 3) (hs : s.fault = none) (hop : OperandOk r s) : EndsAtPc (bitInstr k r) s := by
  obtain ⟨-, -, -, -, -, hreg, hmem, -⟩ := cbBitResSet k r
  cases hr : r.reg with
  | some q => exact ⟨_, hreg q s hr, hs, rfl⟩
  | none =>
    obtain ⟨b, hb⟩ := readable_iff.mp (hop hr).1
    have hpc : (afterRead b s).cpu.pc = s.cpu.pc := by rw [afterRead_cpu]
    exact ⟨_, hmem s b hr hb, (afterRead_fault b s).trans hs, hpc⟩

end

/-- BIT has its read alone; every other instruction of the CB table reads and writes back. -/
theorem endsAtPc_decodeCb (o : Byte) {s : State} (hs : s.fault = none)
    (hop : OperandOk (r8OfCode (o.extractLsb' 0 3)) s) : EndsAtPc (decodeCb o) s := by
  obtain ⟨-, -, -, hrot⟩ := rotatesAndShifts
  obtain ⟨-, -, -, hres, hset, -⟩ := cbBitResSet (o.extractLsb' 3 3) (r8OfCode (o.extractLsb' 0 3))
  unfold decodeCb
  dsimp only
  split_ifs
  · exact endsAtPc_of_readsModifies (hrot _ _) hs hop
  · exact endsAtPc_bitInstr _ hs hop
  · exact endsAtPc_of_readsModifies hres hs hop
  · exact endsAtPc_of_readsModifies hset hs hop

/-- 10 R23: of the eight codes, 6 alone names no register. -/
theorem code_eq_six_of_reg_none {z : BitVec 3} (h : (r8OfCode z).reg = none) : z = 6 := by
  revert z
  decide

/-- Settles O5: the prefix dispatches on the fields the CB table is read by, and its instructions end where they may
read and write. -/
theorem prefixCbRunsThePair : Obligations.PrefixCbRunsThePair := by
  refine ⟨exec_prefix_cb, fun o s hs hop => ?_, fun o => encodes_of_hasBytes (hasBytes_decodeCb o)⟩
  rw [exec_prefix_cb]
  exact endsAtPc_decodeCb o hs fun hr => hop (code_eq_six_of_reg_none hr)

/-! ## NOP, HALT, STOP, DI and EI (45 R400 to R404) -/

theorem exec_stop_of_armed (x : Byte) {s : State} (h : s.cgbMode = true ∧ s.speedArmed = true) :
    exec (.stop x) s = .next (spend 4 (switchSpeed s)) :=
  if_pos ((Bool.and_eq_true _ _).mpr h)

theorem exec_stop_of_not_armed (x : Byte) {s : State} (h : ¬(s.cgbMode = true ∧ s.speedArmed = true)) :
    exec (.stop x) s = .next (recordFault .stopUnmodelled s) :=
  if_neg (mt (Bool.and_eq_true _ _).mp h)

/-- Settles O51: each instruction is its own update of the state, and STOP has one on each side of its test. -/
theorem systemInstructions : Obligations.SystemInstructions :=
  fun _ x => ⟨⟨rfl, rfl, rfl, rfl, rfl⟩, rfl, rfl, exec_stop_of_armed x, exec_stop_of_not_armed x, rfl, rfl⟩

/-! ## The illegal opcodes (45 R405) -/

theorem illegalRows_hasBytes : ∀ p ∈ illegalRows, HasBytes p.2 [p.1] := by
  unfold HasBytes
  decide

theorem exec_illegalRows : ∀ p ∈ illegalRows, ∀ s, exec p.2 s = illegal p.1 s := by
  simp only [illegalRows, List.forall_mem_cons]
  exact ⟨fun _ => rfl, fun _ => rfl, fun _ => rfl, fun _ => rfl, fun _ => rfl, fun _ => rfl, fun _ => rfl,
    fun _ => rfl, fun _ => rfl, fun _ => rfl, fun _ => rfl, List.forall_mem_nil _⟩

/-! ## Fetching one byte (30 R178) and the step's beginning (60 R501) -/

/-- A fetch of a stored byte takes no draw: it moves PC alone. -/
theorem fetch8_of_stored {b : Byte} {s : State} (h : peek s.cpu.pc s = .ok ⟨b, 0x00⟩) :
    fetch8 s = .ok b (setPc (s.cpu.pc + 1) s) := by
  have hvalue : readValue ⟨b, 0x00⟩ s = b := by simp [readValue]
  rw [fetch8, busRead_of_peek h, hvalue]
  rfl

theorem decodesTo_of_hasBytes {i : Instr} {bs : List Byte} (h : HasBytes i bs) : DecodesTo i bs := by
  obtain ⟨hwf, rfl⟩ := h
  exact decodesTo_encode i hwf

theorem fetchInstr_of_oneByte {o : Byte} {i : Instr} {s : State} (hi : DecodesTo i [o])
    (h : peek s.cpu.pc s = .ok ⟨o, 0x00⟩) : fetchInstr s = .ok i (setPc (s.cpu.pc + 1) s) := by
  obtain ⟨hlen, hdec⟩ := hi
  rw [fetchInstr, fetch8_of_stored h, Res.bind_ok, if_pos hlen, hdec]

theorem step_of_fetchInstr {i : Instr} {s t : State} (hs : s.fault = none) (hh : s.cpu.halted = false)
    (h : fetchInstr (beginStep s) = .ok i t) : step s = afterExec (spdOf s) (exec i t) := by
  rw [step, runStep, hs]
  simp only [hh, h, Bool.false_eq_true, if_false]

/-- Settles O52: each row's byte is the whole instruction, which only records its fault; a fault recorded by exec ends
the step with the state exec left. -/
theorem illegalOpcodesFault : Obligations.IllegalOpcodesFault := by
  refine ⟨rfl, fun o i hmem => ?_⟩
  have hbytes : HasBytes i [o] := illegalRows_hasBytes _ hmem
  have hexec : ∀ s, exec i s = illegal o s := exec_illegalRows _ hmem
  refine ⟨encodes_of_hasBytes hbytes, hexec, fun s hs hh hpeek => ?_⟩
  have hfetch := fetchInstr_of_oneByte (s := beginStep s) (decodesTo_of_hasBytes hbytes) hpeek
  rw [step_of_fetchInstr hs hh hfetch, hexec]
  rfl

end Sys2Proof.Machine
end

section
/-! PROOF. The engine step around an instruction (60 R501, R502, R511 to R516, R520, R522): each way the interrupt
service can go, what the timer's increments add up to, fetching an instruction's bytes, and the halted step. -/

open Sys2Proof.Claims

namespace Sys2Proof.Machine

/-! ## The interrupt service, one equation per branch (60 R513, R514, R516) -/

section

variable {s : State}

theorem interruptService_of_enabling (he : s.cpu.enabling = true) :
    interruptService s = .ok 0 { s with cpu.ime := true, cpu.enabling := false } := if_pos he

theorem interruptService_of_no_pending (he : s.cpu.enabling = false) (hp : pending s = 0) :
    interruptService s = .ok 0 s := by
  rw [interruptService, if_neg (by simp [he]), if_pos hp]

theorem interruptService_of_ime (he : s.cpu.enabling = false) (hp : pending s ≠ 0) (hi : s.cpu.ime = true) :
    interruptService s =
      (takeInterrupt (lowestBit (pending s)) s).bind fun _ t => .ok Config.intCost t := by
  rw [interruptService, if_neg (by simp [he]), if_neg hp, if_pos hi]

theorem interruptService_of_halted (he : s.cpu.enabling = false) (hp : pending s ≠ 0) (hi : s.cpu.ime = false)
    (hh : s.cpu.halted = true) : interruptService s = .ok Config.unhaltCost { s with cpu.halted := false } := by
  rw [interruptService, if_neg (by simp [he]), if_neg hp, if_neg (by simp [hi]), if_pos hh]

theorem interruptService_of_running (he : s.cpu.enabling = false) (hp : pending s ≠ 0) (hi : s.cpu.ime = false)
    (hh : s.cpu.halted = false) : interruptService s = .ok 0 s := by
  rw [interruptService, if_neg (by simp [he]), if_neg hp, if_neg (by simp [hi]), if_neg (by simp [hh])]

end

/-! ## The dispatch of the lowest source (60 R514, R517) -/

/-- The lowest set bit is the one below which no bit is set. -/
theorem lowestBit_eq {p : BitVec 5} {i : Nat} (hi : i < 5) (hset : p.getLsbD i = true)
    (hlow : ∀ j < i, p.getLsbD j = false) : lowestBit p = i := by
  revert p
  interval_cases i <;> decide

theorem takeInterrupt_of_pushes {s u : State} {i : Nat} (h : Pushes s.cpu.pc (acceptInterrupt i s) u) :
    takeInterrupt i s = .ok () (setPc (vectorOf i) u) := by
  rw [takeInterrupt, callTo, acceptInterrupt_cpu_pc, push16_of_pushes h]
  rfl

theorem takeInterrupt_of_pushStops {s u : State} {i : Nat} {e : Fault}
    (h : PushStops s.cpu.pc (acceptInterrupt i s) e u) : takeInterrupt i s = .stop e u := by
  rw [takeInterrupt, callTo, acceptInterrupt_cpu_pc, push16_of_pushStops h]
  rfl

/-- With IME set and i the lowest pending source, the service takes interrupt i. -/
theorem interruptService_of_lowest {s : State} {i : Nat} (he : s.cpu.enabling = false) (hime : s.cpu.ime = true)
    (hi : i < 5) (hset : (pending s).getLsbD i = true) (hlow : ∀ j < i, (pending s).getLsbD j = false) :
    interruptService s = (takeInterrupt i s).bind fun _ t => .ok Config.intCost t := by
  have hp : pending s ≠ 0 := fun h => by rw [h] at hset; simp at hset
  rw [interruptService_of_ime he hp hime, lowestBit_eq hi hset hlow]

/-- Settles O53: the service tests the EI flag, the pending sources, IME and `halted` in turn; a dispatch is a push of
PC in the state with IME, `halted` and the request cleared. -/
theorem interruptService_obligation : Obligations.InterruptService := by
  refine ⟨fun s he => interruptService_of_enabling he, fun s he hp => interruptService_of_no_pending he hp, ?_, ?_,
    fun s he hp hime => ⟨fun hh => interruptService_of_halted he hp hime hh,
      fun hh => interruptService_of_running he hp hime hh⟩⟩
  · rintro s _ i he hime hi hset hlow rfl hpush
    obtain ⟨u, hu, hcpu⟩ := exists_pushes_of_pushOk hpush
    refine ⟨u, hu, ?_, hcpu⟩
    rw [interruptService_of_lowest he hime hi hset hlow, takeInterrupt_of_pushes hu]
    rfl
  · rintro s _ u i e he hime hi hset hlow rfl hstop
    rw [interruptService_of_lowest he hime hi hset hlow, takeInterrupt_of_pushStops hstop]
    rfl

/-! ## The divider and the timer (60 R520, R522) -/

theorem timerPeriod_eq_periodOf (tac : BitVec 3) : timerPeriod tac = periodOf tac := by revert tac; decide

/-- The increments of TIMA: its value after them, and the timer interrupt requested if one of them overflowed. -/
theorem timaTicks_eq_timaAfter (n : Nat) (s : State) :
    timaTicks n s = { s with
      timer.tima := (timaAfter s.timer.tma n s.timer.tima).1
      ifr := if (timaAfter s.timer.tma n s.timer.tima).2 then s.ifr ||| 0b00100#5 else s.ifr } := by
  induction n generalizing s with
  | zero => rfl
  | succ n ih =>
    rw [timaTicks, timaTick, timaAfter]
    split
    · rw [ih]
      have hor : s.ifr ||| 0b00100#5 ||| 0b00100#5 = s.ifr ||| 0b00100#5 := by rw [BitVec.or_assoc, BitVec.or_self]
      cases h : (timaAfter s.timer.tma n s.timer.tma).2 <;> simp [request, h, hor]
    · rw [ih]

/-- Settles O54: the divider's quotient and remainder are one division; the timer's increments add up to `timaAfter`. -/
theorem dividerAndTimer : Obligations.DividerAndTimer := by
  rintro c s d rfl
  have hdiv : divStep c s.timer = { s.timer with
      div := BitVec.ofNat 8 (s.timer.div.toNat + (s.timer.divAcc + c) / 255)
      divAcc := (s.timer.divAcc + c) % 255 } := by
    rw [divStep, add_ofNat_eq]
    rfl
  constructor
  · intro htac
    rw [timerStep, timaStep, hdiv, if_neg (Bool.eq_false_iff.mp htac)]
  · intro htac
    rw [timerStep, timaStep, hdiv, if_pos htac, timaTicks_eq_timaAfter, timerPeriod_eq_periodOf]

/-! ## Fetching (30 R178) -/

/-- The fetch of the n-th byte from PC on: it moves PC, which no read depends on. -/
theorem fetch8_of_stored_at {n : Nat} {b : Byte} {s : State}
    (h : peek (s.cpu.pc + BitVec.ofNat 16 n) s = .ok (.stored b)) :
    fetch8 (setPc (s.cpu.pc + BitVec.ofNat 16 n) s) = .ok b (setPc (s.cpu.pc + BitVec.ofNat 16 (n + 1)) s) := by
  rw [fetch8_of_stored (s := setPc (s.cpu.pc + BitVec.ofNat 16 n) s) h, BitVec.ofNat_add, ← BitVec.add_assoc]
  rfl

/-- Stored bytes that decode to an instruction are fetched as that instruction. -/
theorem fetchInstr_of_decodesTo {i : Instr} {bs : List Byte} {s : State} (hi : DecodesTo i bs)
    (h : ∀ k < bs.length, peek (s.cpu.pc + BitVec.ofNat 16 k) s = .ok (.stored (bs.getD k 0))) :
    fetchInstr s = .ok i (setPc (s.cpu.pc + BitVec.ofNat 16 bs.length) s) := by
  have h0 : 0 < bs.length → peek s.cpu.pc s = .ok (.stored (bs.getD 0 0)) := fun hn => by
    have hpc := h 0 hn
    rwa [BitVec.add_zero] at hpc
  match bs, hi with
  | [o], hi => exact fetchInstr_of_oneByte hi (h0 Nat.zero_lt_one)
  | [o, a], ⟨hlen, hdec⟩ =>
    have hfirst : fetch8 s = .ok o (setPc (s.cpu.pc + BitVec.ofNat 16 1) s) :=
      fetch8_of_stored (h0 (by decide : 0 < 2))
    have h1 : peek (s.cpu.pc + BitVec.ofNat 16 1) s = .ok (.stored a) := h 1 (by decide : 1 < 2)
    rw [fetchInstr, hfirst, Res.bind_ok, if_neg (by omega), fetch8_of_stored_at h1, Res.bind_ok, if_pos hlen, hdec]
    rfl
  | [o, a, b], ⟨hlen, hdec⟩ =>
    have hfirst : fetch8 s = .ok o (setPc (s.cpu.pc + BitVec.ofNat 16 1) s) :=
      fetch8_of_stored (h0 (by decide : 0 < 3))
    have h1 : peek (s.cpu.pc + BitVec.ofNat 16 1) s = .ok (.stored a) := h 1 (by decide : 1 < 3)
    have h2 : peek (s.cpu.pc + BitVec.ofNat 16 2) s = .ok (.stored b) := h 2 (by decide : 2 < 3)
    rw [fetchInstr, hfirst, Res.bind_ok, if_neg (by omega), fetch8_of_stored_at h1, Res.bind_ok, if_neg (by omega),
      fetch8_of_stored_at h2, Res.bind_ok, hdec]
    rfl

/-- A list that decodes to an instruction and nothing left over holds all its bytes. -/
theorem decodesTo_of_encodes {i : Instr} {bs : List Byte} (h : Encodes bs i) : DecodesTo i bs := by
  obtain ⟨hwf, hbs⟩ := decodedBytesAreTheEncoding bs i [] h
  rw [hbs, List.append_nil]
  exact decodesTo_encode i hwf

/-! ## The step (60 R501, R545) -/

section

variable {s u w : State}

theorem step_of_fetchInstr_stop {e : Fault} (hs : s.fault = none) (hh : s.cpu.halted = false)
    (h : fetchInstr (beginStep s) = .stop e u) : step s = .next (recordFault e u) := by
  rw [step, runStep, hs]
  simp only [hh, h, Bool.false_eq_true, if_false]

theorem step_of_halted (hs : s.fault = none) (hh : s.cpu.halted = true) :
    step s = (finishStep (spdOf s) (spend Config.haltStepCost (beginStep s))).outcome := by
  rw [step, runStep, hs]
  exact if_pos hh

theorem finishStep_of_ok {spd x : Nat} (hp : ppuStep spd s.cost s = .ok () u)
    (hi : interruptService (timerStep s.cost u) = .ok x w) :
    finishStep spd s = .ok () { w with charge := s.cost + x } := by
  rw [finishStep, hp, Res.bind_ok, hi]
  rfl

theorem afterExec_of_no_fault (spd : Nat) (h : s.fault = none) :
    afterExec spd (.next s) = (finishStep spd s).outcome := by
  rw [afterExec, h]
  rfl

theorem afterExec_of_fault (spd : Nat) (h : s.fault ≠ none) : afterExec spd (.next s) = .next s :=
  if_pos (Option.isSome_iff_ne_none.mpr h)

end

/-- Settles O6: the bytes at PC are fetched one by one, and what follows exec is `finishStep`, or nothing after a
fault. -/
theorem stepRunsDecodedInstruction : Obligations.StepRunsDecodedInstruction := by
  refine ⟨fun s bs i hs hh hdec hpeek => ?_, fun s i t hs hh h => step_of_fetchInstr hs hh h,
    fun s e t hs hh h => step_of_fetchInstr_stop hs hh h, fun spd t u w x ht hp hi => ?_,
    fun spd t ht => afterExec_of_fault spd ht⟩
  · exact step_of_fetchInstr hs hh (fetchInstr_of_decodesTo (s := beginStep s) (decodesTo_of_encodes hdec) hpeek)
  · rw [afterExec_of_no_fault spd ht, finishStep_of_ok hp hi]
    rfl

/-! ## The CPU's registers outside exec -/

section

variable {s t : State}

theorem PpuKeeps.cpu_eq (h : PpuKeeps s t) : t.cpu = s.cpu := (congrArg State.cpu h.state).trans rfl

theorem ppuStep_keeps_of_ok {spd c : Nat} (h : ppuStep spd c s = .ok () t) : PpuKeeps s t := by
  have hk := ppuStep_keeps spd c s
  rwa [h] at hk

@[simp] theorem timerStep_cpu (c : Nat) (s : State) : (timerStep c s).cpu = s.cpu :=
  (congrArg State.cpu (timerStep_eq c s)).trans rfl

theorem busWrite_cpu_of_ok {a : Word} {v : Byte} (h : busWrite a v s = .ok () t) : t.cpu = s.cpu := by
  have hk := busWrite_keeps a v s
  rw [h] at hk
  exact hk.cpu

theorem push16_cpu {v : Word} (h : push16 v s = .ok () t) : t.cpu = { s.cpu with sp := s.cpu.sp - 2 } := by
  obtain ⟨_, u, hu, -⟩ := Res.bind_eq_ok.mp h
  rw [push16_second hu] at h
  rw [busWrite_cpu_of_ok h, setSp, busWrite_cpu_of_ok hu]
  rfl

/-- A dispatch moves SP and PC and clears IME and `halted`, whatever it pushes over. -/
theorem takeInterrupt_cpu {i : Nat} (h : takeInterrupt i s = .ok () t) :
    t.cpu = { s.cpu with ime := false, halted := false, sp := s.cpu.sp - 2, pc := vectorOf i } := by
  obtain ⟨_, u, hu, hset⟩ := Res.bind_eq_ok.mp h
  cases hset
  dsimp only [setPc]
  rw [push16_cpu hu]
  rfl

/-- A service after which the CPU is halted dispatched nothing and woke nothing: it changed at most the EI flag. -/
theorem interruptService_cpu_of_halted {x : Nat} (h : interruptService s = .ok x t) (hh : t.cpu.halted = true) :
    t.cpu = { s.cpu with ime := s.cpu.ime || s.cpu.enabling, enabling := false } := by
  cases he : s.cpu.enabling with
  | true =>
    rw [interruptService_of_enabling he] at h
    cases h
    rw [Bool.or_true]
  | false =>
    have hsame : { s.cpu with ime := s.cpu.ime || false, enabling := false } = s.cpu := by rw [Bool.or_false, ← he]
    rw [hsame]
    by_cases hp : pending s = 0
    · rw [interruptService_of_no_pending he hp] at h
      cases h
      rfl
    cases hime : s.cpu.ime with
    | true =>
      rw [interruptService_of_ime he hp hime] at h
      obtain ⟨_, u, hu, hok⟩ := Res.bind_eq_ok.mp h
      cases hok
      rw [takeInterrupt_cpu hu] at hh
      cases hh
    | false =>
      cases hs : s.cpu.halted with
      | true =>
        rw [interruptService_of_halted he hp hime hs] at h
        cases h
        cases hh
      | false =>
        rw [interruptService_of_running he hp hime hs] at h
        cases h
        rfl

end

/-- Settles O7: the halted step is `finishStep` of 4 cycles; the PPU and the timer leave the CPU alone, and so does a
service that leaves it halted, but for the EI flag. -/
theorem haltedStepExecutesNothing : Obligations.HaltedStepExecutesNothing := by
  intro s u w x hs hh hp hi
  have hu : u.cpu = s.cpu := (ppuStep_keeps_of_ok hp).cpu_eq
  refine ⟨?_, hu, fun hw => ?_⟩
  · rw [step_of_halted hs hh]
    exact congrArg Res.outcome (finishStep_of_ok (s := spend Config.haltStepCost (beginStep s)) hp hi)
  · have hcpu := interruptService_cpu_of_halted hi hw
    rw [timerStep_cpu, hu] at hcpu
    exact ⟨hcpu, (congrArg Cpu.pc hcpu).trans rfl⟩

end Sys2Proof.Machine
end

section
/-! PROOF. A parked CPU stays parked (60 R548): a halted step of it dispatches nothing and wakes nothing, and neither a
host operation nor `update()` reaches the CPU or IE. -/

namespace Sys2Proof.Machine

/-! ## What the rest of a step and the host leave alone -/

section

variable {s t : State}

theorem PpuKeeps.ie_eq (h : PpuKeeps s t) : t.ie = s.ie := (congrArg State.ie h.state).trans rfl

theorem PpuKeeps.fault_eq (h : PpuKeeps s t) : t.fault = s.fault := (congrArg State.fault h.state).trans rfl

@[simp] theorem timerStep_ie (c : Nat) (s : State) : (timerStep c s).ie = s.ie :=
  (congrArg State.ie (timerStep_eq c s)).trans rfl

@[simp] theorem timerStep_fault (c : Nat) (s : State) : (timerStep c s).fault = s.fault :=
  (congrArg State.fault (timerStep_eq c s)).trans rfl

end

/-- A pull changes nothing but sound (62 R720). -/
theorem pull_eq (k : Nat) (s : State) : (pull k s).2 = { s with apu := (pull k s).2.apu } := by
  induction k generalizing s with
  | zero => rfl
  | succ k ih =>
    unfold pull sample
    cases s.apu.soundEnabled with
    | false => rfl
    | true => exact ih _

/-- Loading save data changes the cartridge's two RAMs and nothing else (60 R544). -/
theorem loadSaveData_eq (bs : List Byte) (s : State) : loadSaveData bs s = { s with
    cart.ram := (loadSaveData bs s).cart.ram, cart.mbc2Ram := (loadSaveData bs s).cart.mbc2Ram } := by
  unfold loadSaveData
  split <;> rfl

/-- A host operation acts on the joypad, the cartridge's RAM or the sound (60 R530 to R544, 62 R720). -/
theorem HostOp.apply_eq (o : HostOp) (s : State) : o.apply s = { s with
    inputMask := (o.apply s).inputMask, ifr := (o.apply s).ifr, cart := (o.apply s).cart, apu := (o.apply s).apu } := by
  cases o with
  | press btn => rfl
  | release btn => rfl
  | loadSave bs =>
    rw [HostOp.apply, loadSaveData_eq]
  | pull k =>
    rw [HostOp.apply, pull_eq]

/-! ## update() and the step (60 R540) -/

/-- What every step keeps, the loop of `update()` keeps. -/
theorem updateLoop_invariant {P : State → Prop} (hstep : ∀ s t, P s → step s = .next t → P t) (k spent : Nat)
    {s : State} (hs : P s) : P (updateLoop k spent s).2 := by
  induction k generalizing spent s with
  | zero => exact hs
  | succ k ih =>
    unfold updateLoop
    split
    · cases h : step s with
      | next t => exact ih _ (hstep s t hs h)
      | fault r => exact hs
      | refused r => exact hs
    · exact hs

/-- `update()` is its loop, and then the new carry. -/
theorem update_snd_eq (s : State) : (update s).2 =
    { (updateLoop (2 * Config.cyclesPerFrame) 0 s).2 with frameCarry := (update s).2.frameCarry } := by
  unfold update
  dsimp only
  split <;> rfl

/-! ## Parked (60 R548) -/

section

variable {s t : State}

/-- Parked is a property of the CPU, IE and the fault. -/
theorem Parked.congr (h : Parked s) (hcpu : t.cpu = s.cpu) (hie : t.ie = s.ie) (hf : t.fault = s.fault) : Parked t := by
  obtain ⟨hh, he, hlow, hnone⟩ := h
  exact ⟨hcpu ▸ hh, hcpu ▸ he, hie ▸ hlow, hf.trans hnone⟩

/-- No interrupt is enabled, so none is pending, whatever is requested (60 R511). -/
theorem Parked.pending_eq (h : Parked s) : pending s = 0 := by
  obtain ⟨-, -, hlow, -⟩ := h
  rw [pending, hlow]
  exact BitVec.and_zero

theorem Parked.interruptService_eq (h : Parked s) : interruptService s = .ok 0 s := by
  obtain ⟨-, he, -, -⟩ := id h
  exact interruptService_of_no_pending he h.pending_eq

/-- After the PPU and the timer of a parked step the service finds nothing to do. -/
theorem Parked.finishStep_keeps (spd : Nat) (h : Parked s) :
    (finishStep spd s).state.cpu = s.cpu ∧ (finishStep spd s).state.ie = s.ie := by
  have hk := ppuStep_keeps spd s.cost s
  rw [finishStep]
  cases hp : ppuStep spd s.cost s with
  | stop e u =>
    rw [hp] at hk
    exact ⟨hk.cpu_eq, hk.ie_eq⟩
  | ok _ u =>
    rw [hp] at hk
    have hu : Parked (timerStep s.cost u) :=
      h.congr ((timerStep_cpu _ u).trans hk.cpu_eq) ((timerStep_ie _ u).trans hk.ie_eq)
        ((timerStep_fault _ u).trans hk.fault_eq)
    rw [Res.bind_ok, hu.interruptService_eq]
    exact ⟨(timerStep_cpu _ u).trans hk.cpu_eq, (timerStep_ie _ u).trans hk.ie_eq⟩

theorem Parked.step_keeps (h : Parked s) (hstep : step s = .next t) : t.cpu = s.cpu ∧ t.ie = s.ie := by
  obtain ⟨hh, -, -, hf⟩ := id h
  have hbegin : Parked (spend Config.haltStepCost (beginStep s)) := h.congr rfl rfl rfl
  have hfinish := hbegin.finishStep_keeps (spdOf s)
  rw [step_of_halted hf hh] at hstep
  cases hres : finishStep (spdOf s) (spend Config.haltStepCost (beginStep s)) <;>
    (rw [hres] at hfinish hstep; cases hstep; exact hfinish)

theorem Parked.step_parked (h : Parked s) (hstep : step s = .next t) (hf : t.fault = none) : Parked t := by
  obtain ⟨hcpu, hie⟩ := h.step_keeps hstep
  obtain ⟨-, -, -, hs⟩ := id h
  exact h.congr hcpu hie (hf.trans hs.symm)

/-- A fault ends the run, so every later step is one from a parked state. -/
theorem Parked.updateLoop_keeps (h : Parked s) (k spent : Nat) :
    (updateLoop k spent s).2.cpu = s.cpu ∧
      ((updateLoop k spent s).2.fault = none → Parked (updateLoop k spent s).2) := by
  refine updateLoop_invariant (P := fun u => u.cpu = s.cpu ∧ (u.fault = none → Parked u)) ?_ k spent
    ⟨rfl, fun _ => h⟩
  rintro u v ⟨hcpu, hu⟩ hstep
  obtain ⟨hf, -⟩ := step_ends hstep
  exact ⟨((hu hf).step_keeps hstep).1.trans hcpu, (hu hf).step_parked hstep⟩

end

/-- Settles O14: a parked step is a halted one whose service finds nothing pending; host operations and `update()` leave
the CPU, IE and the fault as the steps do. -/
theorem parkedStaysParked : Obligations.ParkedStaysParked := by
  refine ⟨fun s t h hstep => ?_, fun o s h => ?_, fun s h => ?_⟩
  · obtain ⟨hcpu, hie⟩ := h.step_keeps hstep
    exact ⟨hcpu, hie, h.step_parked hstep⟩
  · rw [HostOp.apply_eq]
    exact ⟨rfl, h.congr rfl rfl rfl⟩
  · obtain ⟨hcpu, hparked⟩ := h.updateLoop_keeps (2 * Config.cyclesPerFrame) 0
    rw [update_snd_eq]
    exact ⟨hcpu, fun hf => (hparked hf).congr rfl rfl rfl⟩

end Sys2Proof.Machine
end

section
/-! PROOF. The causes of faults (60 R545, R546): a bus access faults past the end of the ROM or at a missing RTC
register, and the state it leaves shows which; nothing else in a step raises a fault but an illegal opcode and STOP. -/

open Sys2Proof.Claims

namespace Sys2Proof.Machine

/-! ## The two faults of the bus (20 R153, R168) -/

/-- A fault of the bus with the state that shows its cause. -/
inductive BusCause : Fault → State → Prop
  | rom {idx : Nat} {t : State} (h : t.cart.romLength ≤ idx) : BusCause (.romOutOfRange idx) t
  | rtc {t : State} (h : badRtcSelected t.cart = true) : BusCause (.rtcIndexOutOfRange t.cart.ramBank) t

theorem BusCause.explained {e : Fault} {t : State} (h : BusCause e t) : FaultExplained e t := by
  cases h with
  | rom h => exact h
  | rtc h => exact ⟨h, rfl⟩

/-- If the operation stops, it stops with a fault of the bus. -/
def StopsByBus {α : Type} (x : Res α) : Prop := ∀ e t, x = .stop e t → BusCause e t

section

variable {α β : Type}

theorem StopsByBus.ok (a : α) (t : State) : StopsByBus (.ok a t) := by rintro _ _ ⟨⟩

theorem StopsByBus.bind {x : Res α} {k : α → State → Res β} (hx : StopsByBus x)
    (hk : ∀ a t, x = .ok a t → StopsByBus (k a t)) : StopsByBus (x.bind k) := by
  intro e t h
  obtain h | ⟨a, u, hu, h⟩ := Res.bind_eq_stop.mp h
  · exact hx e t h
  · exact hk a u hu e t h

theorem StopsByBus.then {x : Res α} {k : α → State → State} (hx : StopsByBus x) : StopsByBus (x.then k) :=
  hx.bind fun _ _ _ => .ok _ _

theorem StopsByBus.ite {c : Prop} [Decidable c] {x y : Res α} (hx : StopsByBus x) (hy : StopsByBus y) :
    StopsByBus (if c then x else y) := by
  split <;> assumption

end

theorem BusCause.recordFault {e r : Fault} {t : State} (h : BusCause e t) : BusCause e (recordFault r t) := by
  cases h with
  | rom h => exact .rom h
  | rtc h => exact .rtc (t := Machine.recordFault r t) h

/-! ## The bus -/

theorem ramTarget_badRtc {c : Cart} {n : Nat} {b : Byte} (h : ramTarget c n = .badRtc b) :
    badRtcSelected c = true ∧ b = c.ramBank := by
  have hbad : badRtcSelected c = true := by
    by_contra hn
    exact ramTarget_not_bad (Bool.eq_false_iff.mpr hn) b h
  have hparts := hbad
  simp only [badRtcSelected, Bool.and_eq_true, decide_eq_true_eq] at hparts
  obtain ⟨⟨hm, he⟩, hbank⟩ := hparts
  rw [ramTarget_mbc3 hm he, if_neg (by omega), if_neg (by omega)] at h
  cases h
  exact ⟨hbad, rfl⟩

/-- The fault of an access to the RAM window. -/
theorem BusCause.of_ramTarget {s : State} {n : Nat} {b : Byte} (h : ramTarget s.cart n = .badRtc b) :
    BusCause (.rtcIndexOutOfRange b) s := by
  obtain ⟨hbad, rfl⟩ := ramTarget_badRtc h
  exact .rtc hbad

theorem BusCause.of_peek {a : Word} {s : State} {e : Fault} (h : peek a s = .error e) : BusCause e s := by
  by_cases hrom : a.toNat < 0x8000
  · rw [peek_rom hrom, peekRom] at h
    split_ifs at h with hlt
    cases h
    exact .rom (Nat.not_lt.mp hlt)
  by_cases hcart : 0xA000 ≤ a.toNat ∧ a.toNat < 0xC000
  · rw [peek_cartRam hcart, peekCartRam] at h
    cases ht : ramTarget s.cart a.toNat with
    | badRtc b => rw [ht] at h; cases h; exact .of_ramTarget ht
    | absent | ram | nibble | rtc => rw [ht] at h; cases h
  · obtain ⟨r, hr⟩ := readable_iff.mp (show readable a s = true by rw [readable_eq, if_neg hrom, if_neg hcart])
    cases h.symm.trans hr

theorem stopsByBus_busRead (a : Word) (s : State) : StopsByBus (busRead a s) := by
  cases hp : peek a s with
  | ok r => rw [busRead_of_peek hp]; exact .ok _ _
  | error e =>
    rw [busRead_of_error hp]
    rintro _ _ ⟨⟩
    exact .of_peek hp

theorem stopsByBus_oamDma (v : Byte) (n i : Nat) (s : State) : StopsByBus (oamDma v i n s) := by
  induction n generalizing i s with
  | zero => exact .ok _ _
  | succ n ih => exact (stopsByBus_busRead _ s).bind fun _ _ _ => ih _ _

theorem stopsByBus_copyBytes (n : Nat) (s : State) : StopsByBus (copyBytes n s) := by
  induction n generalizing s with
  | zero => exact .ok _ _
  | succ n ih => exact (stopsByBus_busRead _ s).then.bind fun _ _ _ => ih _

theorem stopsByBus_writeHdma5 (v : Byte) (s : State) : StopsByBus (writeHdma5 v s) :=
  .ite (.ok _ _) (.ite (stopsByBus_copyBytes _ s).then (.ok _ _))

theorem stopsByBus_writeCart (n : Nat) (v : Byte) (s : State) : StopsByBus (writeCart n v s) := by
  rw [writeCart, writeCartRam]
  cases ht : ramTarget s.cart n with
  | badRtc b =>
    rintro _ _ ⟨⟩
    exact .of_ramTarget ht
  | absent | ram | nibble | rtc => exact .ok _ _

/-- The writes that can fault go to the RAM window or start a DMA; every other is `writable`. -/
theorem stopsByBus_busWrite (a : Word) (v : Byte) (s : State) : StopsByBus (busWrite a v s) := by
  by_cases hcart : 0xA000 ≤ a.toNat ∧ a.toNat < 0xC000
  · rw [busWrite_cartRam hcart]
    exact stopsByBus_writeCart _ v s
  by_cases hoam : a = 0xFF46
  · subst hoam
    exact stopsByBus_oamDma v 160 0 s
  by_cases hhdma : a = 0xFF55 ∧ s.cgbMode = true
  · obtain ⟨rfl, hcgb⟩ := hhdma
    rw [busWrite_hdma5 v hcgb]
    exact stopsByBus_writeHdma5 v s
  have hwritable : writable a v s = true := by
    have hwindow : ¬((0xA000 : Word) ≤ a ∧ a < 0xC000) := fun h => hcart ⟨BitVec.le_def.mp h.1, BitVec.lt_def.mp h.2⟩
    rw [writable, if_neg hwindow, if_neg hoam,
      if_neg fun h => hhdma ⟨h.1, h.2.1⟩]
  obtain ⟨t, ht, -⟩ := busWrite_of_writable hwritable
  rw [ht]
  exact .ok _ _

/-- What runs on the bus stops by the bus. -/
theorem Runs.stopsByBus {α : Type} {s : State} {x : Res α} (h : Runs s x) : StopsByBus x := by
  rintro e t rfl
  obtain ⟨u, -, ⟨a, h⟩ | ⟨a, v, h⟩⟩ := h
  · exact stopsByBus_busRead a u e t h
  · exact stopsByBus_busWrite a v u e t h

/-! ## The rest of a step -/

theorem stopsByBus_ppuStep (spd c : Nat) (s : State) : StopsByBus (ppuStep spd c s) := by
  have hblock : ∀ u, StopsByBus (hdmaHblankBlock u) := fun u => .ite (stopsByBus_copyBytes 16 u).then (.ok _ _)
  have hmode : ∀ m u, StopsByBus (enterMode m u) := fun m u => (StopsByBus.ite (hblock _) (.ok _ _)).then
  exact .ite (StopsByBus.ite (hmode _ _) (.ok _ _)).then (.ok _ _)

theorem stopsByBus_interruptService (s : State) : StopsByBus (interruptService s) :=
  .ite (.ok _ _) <| .ite (.ok _ _) <|
    .ite ((runs_callTo _ _).stopsByBus.bind fun _ _ _ => .ok _ _) <| .ite (.ok _ _) (.ok _ _)

theorem stopsByBus_finishStep (spd : Nat) (s : State) : StopsByBus (finishStep spd s) :=
  (stopsByBus_ppuStep _ _ s).bind fun _ _ _ => (stopsByBus_interruptService _).then

theorem interruptService_fault {s t : State} {x : Nat} (h : interruptService s = .ok x t) : t.fault = s.fault := by
  unfold interruptService at h
  split_ifs at h
  · cases h; rfl
  · cases h; rfl
  · obtain ⟨_, u, hu, ht⟩ := Res.bind_eq_ok.mp h
    have hruns := runs_callTo (vectorOf (lowestBit (pending s))) (acceptInterrupt (lowestBit (pending s)) s)
    rw [show callTo _ _ = _ from hu] at hruns
    cases ht
    exact hruns.keeps.1
  · cases h; rfl
  · cases h; rfl

/-- A completed rest of a step records no fault. -/
theorem finishStep_fault {spd : Nat} {s t : State} (h : finishStep spd s = .ok () t) : t.fault = s.fault := by
  obtain ⟨_, u, hu, h⟩ := Res.bind_eq_ok.mp h
  obtain ⟨x, v, hv, h⟩ := Res.bind_eq_ok.mp h
  cases h
  exact (interruptService_fault hv).trans ((timerStep_fault _ u).trans (ppuStep_keeps_of_ok hu).fault_eq)

/-! ## exec and the step (60 R546) -/

/-- An outcome with a fault that its computation did not complete with: the bus raised it. -/
theorem busCause_of_outcome {x : Res Unit} {t : State} {r : Fault} (hx : StopsByBus x)
    (hok : ∀ u, x = .ok () u → u.fault = none) (h : x.outcome = .next t) (hr : t.fault = some r) : BusCause r t := by
  cases x with
  | ok _ u =>
    cases h
    cases (hok t rfl).symm.trans hr
  | stop e u =>
    cases h
    cases hr
    exact (hx _ u rfl).recordFault

theorem finishStep_busCause {spd : Nat} {s t : State} {r : Fault} (hs : s.fault = none)
    (h : (finishStep spd s).outcome = .next t) (hr : t.fault = some r) : BusCause r t :=
  busCause_of_outcome (stopsByBus_finishStep spd s) (fun _ hu => (finishStep_fault hu).trans hs) h hr

/-- 45 R405: the one-byte encodings of the illegal opcodes are those of the eleven rows. -/
theorem mem_illegalRows_of_encode {i : Instr} {o : Byte} (hi : encode i = [o])
    (ho : o ∈ illegalRows.map Prod.fst) : (o, i) ∈ illegalRows := by
  have hwf : WellFormed i = true := by
    cases i
    case prefix_cb => cases hi
    all_goals rfl
  obtain ⟨⟨_, j⟩, hj, rfl⟩ := List.mem_map.mp ho
  have hdecode := decodeEncodeRoundTrip i [] hwf
  obtain ⟨hj', -⟩ := illegalOpcodesFault.2 _ j hj
  rw [hi, List.append_nil, hj'] at hdecode
  cases hdecode
  exact hj

/-- Why an instruction records the fault r and leaves t. -/
inductive ExecCause (i : Instr) : Fault → State → Prop
  | bus {r : Fault} {t : State} (h : BusCause r t) : ExecCause i r t
  | illegal {o : Byte} {t : State} (h : (o, i) ∈ illegalRows) : ExecCause i (.illegalOpcode o) t
  | stop {x : Byte} {t : State} (hi : i = .stop x) (h : ¬(t.cgbMode = true ∧ t.speedArmed = true)) :
      ExecCause i .stopUnmodelled t

theorem execCause_of_fault {i : Instr} {s t : State} {r : Fault} (hs : s.fault = none) (h : exec i s = .next t)
    (hr : t.fault = some r) : ExecCause i r t := by
  cases exec_answers i s with
  | completes hc =>
    obtain ⟨x, hx, hruns, -⟩ := hc
    refine .bus (busCause_of_outcome hruns.stopsByBus (fun u hu => ?_) (hx.symm.trans h) hr)
    rw [hu] at hruns
    exact hruns.keeps.1.trans hs
  | illegal o hi hl he =>
    cases he.symm.trans h
    cases hr
    exact .illegal (mem_illegalRows_of_encode hi hl)
  | stop x hi hn he =>
    cases he.symm.trans h
    cases hr
    exact .stop hi hn

theorem ExecCause.explained {i : Instr} {r : Fault} {t : State} (h : ExecCause i r t) : FaultExplained r t := by
  cases h with
  | bus h => exact h.explained
  | illegal h => exact ⟨i, h⟩
  | stop _ h => exact h

/-- Settles O9: a fault of exec is the bus's, an illegal opcode's or STOP's; one raised outside exec is the bus's. -/
theorem faultsHaveTheirCauses : Obligations.FaultsHaveTheirCauses := by
  refine ⟨fun s t r hs hstep hr => ?_, fun i s t r hs h hr => ?_⟩
  · cases (step_ends hstep).2 with
    | idle _ h =>
      exact (finishStep_busCause (s := spend Config.haltStepCost (beginStep s)) hs h hr).explained
    | fetchFault _ e u h ht =>
      subst ht
      cases hr
      exact ((runs_fetchInstr (beginStep s)).stopsByBus _ u h).recordFault.explained
    | execFault _ i u h he _ =>
      have hfetch := runs_fetchInstr (beginStep s)
      rw [h] at hfetch
      have hu : u.fault = none := hfetch.keeps.1.trans hs
      exact (execCause_of_fault hu he hr).explained
    | ran _ i u v _ _ hv ht => exact (finishStep_busCause hv ht hr).explained
  · have hcause := execCause_of_fault hs h hr
    refine ⟨hcause.explained, fun o ho => ?_, fun hstop => ?_⟩
    · subst ho
      cases hcause with
      | bus h => cases h
      | illegal h => exact h
    · subst hstop
      cases hcause with
      | bus h => cases h
      | stop hi _ => exact ⟨_, hi⟩

end Sys2Proof.Machine
end

section
/-! PROOF. The host (60 R530 to R532, R540 to R544): `update()` as a run of steps, each of which charges cycles; the
frame's pixels; save data that is loaded again; the joypad. -/

open Sys2Proof.Claims

namespace Sys2Proof.Machine

/-! ## Every step of a machine without a fault answers a state and charges cycles (60 R501, R502) -/

theorem exec_next (i : Instr) (s : State) : ∃ t, exec i s = .next t := by
  cases exec_answers i s with
  | completes h =>
    obtain ⟨x, hx, -⟩ := h
    rw [hx]
    cases x <;> exact ⟨_, rfl⟩
  | illegal _ _ _ h => exact ⟨_, h⟩
  | stop _ _ _ h => exact ⟨_, h⟩

theorem Res.outcome_next (x : Res Unit) : ∃ t, x.outcome = .next t := by cases x <;> exact ⟨_, rfl⟩

theorem step_next {s : State} (hs : s.fault = none) : ∃ t, step s = .next t := by
  cases hh : s.cpu.halted with
  | true =>
    rw [step_of_halted hs hh]
    exact Res.outcome_next _
  | false =>
    cases hf : fetchInstr (beginStep s) with
    | stop e u => exact ⟨_, step_of_fetchInstr_stop hs hh hf⟩
    | ok i u =>
      obtain ⟨v, hv⟩ := exec_next i u
      rw [step_of_fetchInstr hs hh hf, hv]
      by_cases hvf : v.fault = none
      · rw [afterExec_of_no_fault _ hvf]
        exact Res.outcome_next _
      · exact ⟨v, afterExec_of_fault _ hvf⟩

theorem exec_cost {i : Instr} {s t : State} (h : exec i s = .next t) (ht : t.fault = none) : legalCost t.cost := by
  cases exec_answers i s with
  | completes hc =>
    obtain ⟨x, hx, -, hcost⟩ := hc
    exact hcost t (Res.ok_of_outcome (hx.symm.trans h) ht)
  | illegal _ _ _ he =>
    cases he.symm.trans h
    cases ht
  | stop _ _ _ he =>
    cases he.symm.trans h
    cases ht

theorem finishStep_charge {spd : Nat} {s t : State} (h : finishStep spd s = .ok () t) : s.cost ≤ t.charge := by
  obtain ⟨_, u, -, h⟩ := Res.bind_eq_ok.mp h
  obtain ⟨x, v, -, h⟩ := Res.bind_eq_ok.mp h
  cases h
  exact Nat.le_add_right _ _

/-- A step that raises no fault charges the cost of its instruction or of the halted idle. -/
theorem step_charge {s t : State} (h : step s = .next t) (ht : t.fault = none) : 4 ≤ t.charge := by
  cases (step_ends h).2 with
  | idle _ h => exact finishStep_charge (Res.ok_of_outcome h ht)
  | fetchFault _ r u _ e =>
    subst e
    cases ht
  | execFault _ i u _ _ hf => exact absurd ht hf
  | ran _ i u v _ he hv h => exact (exec_cost he hv).1.trans (finishStep_charge (Res.ok_of_outcome h ht))

/-! ## update() (60 R540) -/

theorem frameBudget_eq (s : State) : frameBudget s = budgetOf s := rfl

theorem budgetOf_le (s : State) : budgetOf s ≤ 2 * Config.cyclesPerFrame := by
  unfold budgetOf
  split <;> decide

/-- The run from s on whose later states are those of `run`. -/
def runFrom (s : State) (run : Nat → State) : Nat → State
  | 0 => s
  | k + 1 => run k

theorem spentIn_runFrom (s : State) (run : Nat → State) (k : Nat) :
    spentIn (runFrom s run) (k + 1) = (run 0).charge + spentIn run k := by
  simp only [spentIn, List.range_succ_eq_map, List.map_cons, List.map_map, List.sum_cons]
  rfl

/-- The loop of `update()` with `spent` cycles charged before it: k steps, each from a state without a fault and below
the budget, up to one that has a fault or reaches it. -/
structure LoopRun (spent : Nat) (s : State) (k : Nat) (run : Nat → State) : Prop where
  start : run 0 = s
  steps : ∀ i < k, (run i).fault = none ∧ spent + spentIn run i + s.frameCarry < budgetOf (run i) ∧
    step (run i) = .next (run (i + 1))
  carry : ∀ i ≤ k, (run i).frameCarry = s.frameCarry
  ends : (run k).fault ≠ none ∨ budgetOf (run k) ≤ spent + spentIn run k + s.frameCarry

theorem updateLoop_of_end {s : State} (fuel spent : Nat)
    (h : ¬(s.fault = none ∧ spent + s.frameCarry < budgetOf s)) : updateLoop fuel spent s = (spent, s) := by
  cases fuel with
  | zero => rfl
  | succ fuel => exact if_neg h

theorem updateLoop_of_step {s t : State} (fuel spent : Nat) (h : s.fault = none ∧ spent + s.frameCarry < budgetOf s)
    (hstep : step s = .next t) : updateLoop (fuel + 1) spent s = updateLoop fuel (spent + t.charge) t := by
  rw [updateLoop, if_pos (show _ ∧ _ < frameBudget s from h), hstep]

theorem LoopRun.of_end {spent : Nat} {s : State} (h : ¬(s.fault = none ∧ spent + s.frameCarry < budgetOf s)) :
    LoopRun spent s 0 fun _ => s where
  start := rfl
  steps i hi := absurd hi (Nat.not_lt_zero i)
  carry _ _ := rfl
  ends := (not_and_or.mp h).imp_right Nat.not_lt.mp

/-- A step in front of a run. -/
theorem LoopRun.cons {spent k : Nat} {s t : State} {run : Nat → State}
    (h : s.fault = none ∧ spent + s.frameCarry < budgetOf s) (hstep : step s = .next t)
    (hrun : LoopRun (spent + t.charge) t k run) : LoopRun spent s (k + 1) (runFrom s run) := by
  obtain ⟨-, -, -, -, -, -, -, hcarry, -⟩ := fixedByEveryStep s t hstep
  have hspent : ∀ i, spent + spentIn (runFrom s run) (i + 1) = spent + t.charge + spentIn run i := fun i => by
    rw [spentIn_runFrom, hrun.start, Nat.add_assoc]
  refine ⟨rfl, fun i hi => ?_, fun i hi => ?_, ?_⟩
  · cases i with
    | zero => exact ⟨h.1, h.2, hstep.trans (congrArg _ hrun.start.symm)⟩
    | succ i =>
      rw [hspent, ← hcarry]
      exact hrun.steps i (Nat.lt_of_succ_lt_succ hi)
  · cases i with
    | zero => rfl
    | succ i => exact (hrun.carry i (Nat.le_of_succ_le_succ hi)).trans hcarry
  · rw [hspent, ← hcarry]
    exact hrun.ends

/-- With fuel for the cycles still to spend, the loop is such a run: a unit of fuel pays for at least one cycle. -/
theorem exists_loopRun (fuel spent : Nat) {s : State}
    (hfuel : s.fault = none → 2 * Config.cyclesPerFrame ≤ fuel + spent) :
    ∃ k run, LoopRun spent s k run ∧ updateLoop fuel spent s = (spent + spentIn run k, run k) := by
  induction fuel generalizing spent s with
  | zero =>
    have hend : ¬(s.fault = none ∧ spent + s.frameCarry < budgetOf s) := by
      rintro ⟨hs, hbudget⟩
      have hle := budgetOf_le s
      have henough := hfuel hs
      omega
    exact ⟨0, _, .of_end hend, updateLoop_of_end 0 spent hend⟩
  | succ fuel ih =>
    by_cases hgo : s.fault = none ∧ spent + s.frameCarry < budgetOf s
    · obtain ⟨t, ht⟩ := step_next hgo.1
      obtain ⟨k, run, hrun, hloop⟩ := ih (spent + t.charge) (s := t) fun hf => by
        have hcharge := step_charge ht hf
        have henough := hfuel hgo.1
        omega
      refine ⟨k + 1, _, hrun.cons hgo ht, ?_⟩
      rw [updateLoop_of_step fuel spent hgo ht, hloop, spentIn_runFrom, hrun.start, Nat.add_assoc]
      rfl
    · exact ⟨0, _, .of_end hgo, updateLoop_of_end _ spent hgo⟩

/-- 60 R540: `update()` runs the loop from nothing spent, and then carries what the run spent beyond the budget. -/
theorem update_eq_of_loop {s t : State} {spent : Nat} (hloop : updateLoop (2 * Config.cyclesPerFrame) 0 s = (spent, t))
    (hcarry : t.frameCarry = s.frameCarry) :
    update s = (spent, if t.fault = none then { t with frameCarry := spent + s.frameCarry - budgetOf t } else t) := by
  rw [update, hloop]
  dsimp only
  rw [hcarry, frameBudget_eq]
  split <;> rfl

theorem exists_update_eq (s : State) : ∃ k run, LoopRun 0 s k run ∧ update s = (spentIn run k,
    if (run k).fault = none then { run k with frameCarry := spentIn run k + s.frameCarry - budgetOf (run k) }
    else run k) := by
  obtain ⟨k, run, hrun, hloop⟩ := exists_loopRun (2 * Config.cyclesPerFrame) 0 (s := s) fun _ => Nat.le_refl _
  rw [Nat.zero_add] at hloop
  exact ⟨k, run, hrun, update_eq_of_loop hloop (hrun.carry k (Nat.le_refl k))⟩

/-- A carry that covers the budget takes no step. -/
theorem update_of_covered {s : State} (hs : s.fault = none) (h : budgetOf s ≤ s.frameCarry) :
    update s = (0, { s with frameCarry := s.frameCarry - budgetOf s }) := by
  have hend : ¬(s.fault = none ∧ 0 + s.frameCarry < budgetOf s) := fun hgo => by
    have := hgo.2
    omega
  rw [update_eq_of_loop (updateLoop_of_end _ 0 hend) rfl, if_pos hs, Nat.zero_add]

/-- Settles O59: the loop's fuel is never used up, so it is a run up to a fault or the budget, and the new carry is the
difference. -/
theorem updateSpendsTheBudget : Obligations.UpdateSpendsTheBudget := by
  refine ⟨fun s _ => ?_, fun s t spent h hs => ?_⟩
  · obtain ⟨k, run, hrun, hupdate⟩ := exists_update_eq s
    have hends := hrun.ends
    rw [Nat.zero_add] at hends
    refine ⟨k, run, hrun.start, fun i hi => ?_, hends, hupdate⟩
    obtain ⟨hf, hbudget, hstep⟩ := hrun.steps i hi
    rw [Nat.zero_add] at hbudget
    exact ⟨hf, hbudget, hstep, hrun.carry (i + 1) hi⟩
  · have hcovered : budgetOf s ≤ s.frameCarry →
        spent = 0 ∧ t = { s with frameCarry := s.frameCarry - budgetOf s } := fun hle => by
      rw [update_of_covered hs hle, Prod.mk.injEq] at h
      exact ⟨h.1.symm, h.2.symm⟩
    obtain ⟨k, run, hrun, hupdate⟩ := exists_update_eq s
    rw [h, Prod.mk.injEq] at hupdate
    obtain ⟨rfl, rfl⟩ := hupdate
    by_cases hk : (run k).fault = none
    · have hbudget : budgetOf (run k) ≤ spentIn run k + s.frameCarry := by
        have hends := hrun.ends.resolve_left (not_not.mpr hk)
        rwa [Nat.zero_add] at hends
      rw [if_pos hk]
      exact ⟨fun _ => ⟨hbudget, Nat.sub_add_cancel hbudget⟩, fun hf => absurd hk hf, by rwa [if_pos hk] at hcovered⟩
    · rw [if_neg hk]
      exact ⟨fun hf => absurd hf hk, fun _ => hrun.carry k (Nat.le_refl k), by rwa [if_neg hk] at hcovered⟩

/-! ## The frame (60 R541) -/

/-- A list of n rows of w entries each, row after row. -/
theorem length_flatMap_rows {α : Type} {f : Nat → List α} {w n : Nat} (h : ∀ y < n, (f y).length = w) :
    ((List.range n).flatMap f).length = w * n := by
  have hrows : (List.range n).map (fun y => (f y).length) = (List.range n).map fun _ => w :=
    List.map_congr_left fun y hy => h y (List.mem_range.mp hy)
  rw [List.length_flatMap, hrows, List.map_const', List.sum_replicate, List.length_range, smul_eq_mul, Nat.mul_comm]

theorem getElem?_flatMap_rows {α : Type} {f : Nat → List α} {w n x y : Nat} (h : ∀ y < n, (f y).length = w)
    (hx : x < w) (hy : y < n) : ((List.range n).flatMap f)[w * y + x]? = (f y)[x]? := by
  induction n with
  | zero => omega
  | succ n ih =>
    have hn : ∀ y < n, (f y).length = w := fun y hy => h y (Nat.lt_succ_of_lt hy)
    have hlen := length_flatMap_rows hn
    rw [List.range_succ, List.flatMap_append, List.flatMap_singleton]
    obtain hlt | rfl := Nat.lt_succ_iff_lt_or_eq.mp hy
    · have hinside : w * y + x < w * n :=
        Nat.lt_of_lt_of_le (Nat.add_lt_add_left hx _) (Nat.mul_succ w y ▸ Nat.mul_le_mul_left w hlt)
      rw [List.getElem?_append_left (hlen ▸ hinside), ih hn hlt]
    · rw [List.getElem?_append_right (hlen ▸ Nat.le_add_right _ _), hlen, Nat.add_sub_cancel_left]

theorem Frame.length_row {lo : Nat} {f : Frame} (h : Frame.wfFrom lo f = true) (y : Nat) :
    (f.row y).length = Config.screenW := by
  induction f generalizing lo with
  | nil => exact List.length_replicate
  | cons c t ih =>
    obtain ⟨k, row⟩ := c
    obtain ⟨-, -, hrow, ht⟩ := Frame.wfFrom_cons.mp h
    rw [Frame.row]
    split
    · exact hrow
    · exact ih ht

theorem framebuffer_rows {s : State} (h : Inv s) (y : Nat) :
    ((s.ppu.prepared.row y).map Pixel.rgb).length = 160 :=
  (List.length_map _).trans (Frame.length_row h.counters.prepared y)

/-! ## Save data (60 R543, R544) -/

/-- Storing a byte list that fits: its bytes at their indexes, every other byte as before. -/
theorem Memory.get_setBytes {size : Nat} (bs : List Byte) (m : Memory) {i : Nat} (j : Nat) (hw : m.wf = true)
    (hfit : i + bs.length ≤ size) :
    (m.setBytes size i bs).get j = if i ≤ j ∧ j < i + bs.length then bs.getD (j - i) 0 else m.get j := by
  induction bs generalizing m i with
  | nil => exact (if_neg fun h => absurd h.2 (Nat.not_lt.mpr h.1)).symm
  | cons v t ih =>
    rw [List.length_cons] at hfit ⊢
    rw [Memory.setBytes, if_pos (by omega), ih _ (Memory.wf_set m i v hw) (by omega), Memory.get_set m i j v hw]
    obtain hlt | rfl | hgt := Nat.lt_trichotomy j i
    · rw [if_neg (by omega), if_neg (by omega), if_neg (by omega)]
    · rw [if_neg (by omega), if_pos rfl, if_pos (by omega), Nat.sub_self, List.getD_cons_zero]
    · rw [show j - i = (j - (i + 1)) + 1 by omega, List.getD_cons_succ, if_neg (by omega : ¬j = i)]
      exact if_congr (by omega) rfl rfl

/-- What every listed byte and the unlisted one have, every byte has. -/
theorem Memory.get_of_all {p : Byte → Prop} {m : Memory} (h0 : p Memory.unlisted) (h : ∀ c ∈ m, p c.2) (i : Nat) :
    p (m.get i) := by
  induction m with
  | nil => exact h0
  | cons c t ih =>
    obtain ⟨hc, ht⟩ := List.forall_mem_cons.mp h
    unfold Memory.get
    split
    · exact hc
    · exact ih ht

/-- An array reads as unlisted past its size. -/
theorem Memory.get_of_below {n i : Nat} {m : Memory} (h : m.below n = true) (hi : n ≤ i) :
    m.get i = Memory.unlisted := by
  induction m with
  | nil => rfl
  | cons c t ih =>
    rw [Memory.below, List.all_cons, Bool.and_eq_true, decide_eq_true_eq] at h
    obtain ⟨hc, ht⟩ := h
    rw [Memory.get, if_neg (by omega)]
    exact ih ht

theorem Memory.map_bytes {m : Memory} {f : Byte → Byte} (h : ∀ i, f (m.get i) = m.get i) (i n : Nat) :
    (m.bytes i n).map f = m.bytes i n := by
  induction n generalizing i with
  | zero => rfl
  | succ n ih => rw [Memory.bytes, List.map_cons, h, ih]

/-- Storing all the bytes of one array into another makes it equal to the first. -/
theorem Memory.setBytes_bytes {size : Nat} {m k : Memory} (hm : arrayWf size m = true) (hk : arrayWf size k = true) :
    k.setBytes size 0 (m.bytes 0 size) = m := by
  rw [arrayWf, Bool.and_eq_true] at hm hk
  refine Memory.ext _ _ (Memory.wf_setBytes _ k 0 hk.1) hm.1 fun j => ?_
  rw [Memory.get_setBytes _ k j hk.1 (by rw [Memory.length_bytes, Nat.zero_add]), Memory.length_bytes, Nat.zero_add]
  by_cases hj : j < size
  · rw [if_pos ⟨Nat.zero_le j, hj⟩, Nat.sub_zero, Memory.getD_bytes m 0 size j hj, Nat.zero_add]
  · rw [if_neg fun h => hj h.2, Memory.get_of_below hk.2 (Nat.not_lt.mp hj),
      Memory.get_of_below hm.2 (Nat.not_lt.mp hj)]

/-- The MBC2 RAM holds nibbles (10 R63). -/
theorem ArraysInv.mbc2Ram_nibble {s : State} (h : ArraysInv s) (i : Nat) :
    s.cart.mbc2Ram.get i &&& 0x0F = s.cart.mbc2Ram.get i := by
  have hnibble : ∀ v : Byte, v.toNat < 16 → v &&& 0x0F = v := by decide
  refine Memory.get_of_all (p := fun v => v &&& 0x0F = v) rfl (fun c hc => hnibble c.2 ?_) i
  exact of_decide_eq_true (List.all_eq_true.mp h.nibbles c hc)

/-- The controllers whose save data is the RAM array (60 R543). -/
def savesRam (m : Mbc) : Prop := m = .mbc1 ∨ m = .mbc3 ∨ m = .mbc5

section

variable {s t : State}

theorem getSaveData_of_romOnly (h : s.cart.mbc = .romOnly) : getSaveData s = [] := by rw [getSaveData, h]

theorem getSaveData_of_mbc2 (h : s.cart.mbc = .mbc2) :
    getSaveData s = (s.cart.mbc2Ram.bytes 0 512).map (· &&& 0x0F) := by rw [getSaveData, h]

theorem getSaveData_of_savesRam (h : savesRam s.cart.mbc) : getSaveData s = s.cart.ram.bytes 0 0x20000 := by
  obtain h | h | h := h <;> rw [getSaveData, h]

theorem loadSaveData_of_romOnly (bs : List Byte) (h : t.cart.mbc = .romOnly) : loadSaveData bs t = t := by
  rw [loadSaveData, h]

theorem loadSaveData_mbc2Ram (bs : List Byte) (h : t.cart.mbc = .mbc2) :
    (loadSaveData bs t).cart.mbc2Ram = t.cart.mbc2Ram.setBytes 512 0 (bs.map (· &&& 0x0F)) := by
  rw [loadSaveData, h]

theorem loadSaveData_ram (bs : List Byte) (h : savesRam t.cart.mbc) :
    (loadSaveData bs t).cart.ram = t.cart.ram.setBytes 0x20000 0 bs := by
  obtain h | h | h := h <;> rw [loadSaveData, h]

/-- 60 R544: the MBC2 RAM after loading what such a cartridge saved. -/
theorem loadSaveData_restores_mbc2Ram (hs : ArraysInv s) (ht : ArraysInv t) (hmbc : t.cart.mbc = s.cart.mbc)
    (h : s.cart.mbc = .mbc2) : (loadSaveData (getSaveData s) t).cart.mbc2Ram = s.cart.mbc2Ram := by
  have hmap := Memory.map_bytes (f := (· &&& 0x0F)) hs.mbc2Ram_nibble 0 512
  rw [getSaveData_of_mbc2 h, loadSaveData_mbc2Ram _ (hmbc.trans h), hmap, hmap]
  exact Memory.setBytes_bytes hs.mbc2Ram ht.mbc2Ram

/-- 60 R544: the RAM after loading what a cartridge of the same type saved. -/
theorem loadSaveData_restores_ram (hs : ArraysInv s) (ht : ArraysInv t) (hmbc : t.cart.mbc = s.cart.mbc)
    (h : savesRam s.cart.mbc) : (loadSaveData (getSaveData s) t).cart.ram = s.cart.ram := by
  rw [getSaveData_of_savesRam h, loadSaveData_ram _ (hmbc ▸ h)]
  exact Memory.setBytes_bytes hs.ram ht.ram

end

/-- Settles O60: each row is 160 pixels, so a pixel's place is its row's offset and its column; save data lists the
array's bytes in order, and an array is determined by its bytes. -/
theorem frameAndSaveData : Obligations.FrameAndSaveData := by
  refine ⟨fun s hs => ⟨length_flatMap_rows fun y _ => framebuffer_rows hs y, fun x y hx hy => ?_⟩,
    fun s t => ⟨rfl, Nat.le_max_left _ _, Nat.le_max_right _ _, rfl⟩,
    fun s h => ⟨getSaveData_of_romOnly h, fun bs => loadSaveData_of_romOnly bs h⟩,
    fun s h => ?_, fun s h => ?_, fun s t hs ht hmbc => ⟨loadSaveData_eq _ t,
      loadSaveData_restores_mbc2Ram hs.arrays ht.arrays hmbc, loadSaveData_restores_ram hs.arrays ht.arrays hmbc⟩⟩
  · have hrow : (s.ppu.prepared.row y).length = 160 := Frame.length_row hs.counters.prepared y
    refine (getElem?_flatMap_rows (fun y _ => framebuffer_rows hs y) hx hy).trans ?_
    rw [List.getElem?_map, List.getElem?_eq_getElem (hrow ▸ hx), List.getD_eq_getElem _ _ (hrow ▸ hx)]
    rfl
  · rw [getSaveData_of_mbc2 h]
    refine ⟨(List.length_map _).trans (Memory.length_bytes _ 0 512), fun k hk => ?_⟩
    have hmap := List.getD_map (s.cart.mbc2Ram.bytes 0 512) 0 (n := k) (· &&& 0x0F)
    rw [Memory.getD_bytes _ 0 512 k hk, Nat.zero_add] at hmap
    exact hmap
  · rw [getSaveData_of_savesRam h]
    exact ⟨Memory.length_bytes _ 0 _, fun k hk => by rw [Memory.getD_bytes _ 0 _ k hk, Nat.zero_add]⟩

/-! ## The joypad (60 R530 to R532) -/

/-- Settles O27: a press and a release are one bit of the mask, and P1 is `joypadLines`. -/
theorem joypad : Obligations.Joypad := by
  refine ⟨fun s => congrArg (fun x => Except.ok (ReadBits.mk (0#2 ++ s.p1 ++ x) 0xC0)) (joypadLines_eq s),
    fun k s => ⟨rfl, rfl, fun j hj => ?_⟩, rfl⟩
  have hbit : (1#8 <<< k.bit).getLsbD j = decide (j = k.bit) := by
    revert j
    cases k <;> decide
  constructor
  · show (s.inputMask &&& ~~~(1#8 <<< k.bit)).getLsbD j = _
    rw [BitVec.getLsbD_and, BitVec.getLsbD_not, hbit]
    simp [hj]
  · show (s.inputMask ||| 1#8 <<< k.bit).getLsbD j = _
    rw [BitVec.getLsbD_or, hbit]

end Sys2Proof.Machine
end

section
/-! PROOF. A line's pixels (61 R610 to R621): each function of the drawing against the words of its rule, and their
composition. -/

open Sys2Proof.Claims

namespace Sys2Proof.Machine

/-! ## Tiles, background and window (61 R611 to R613) -/

/-- 61 R611: a tile row's two bytes lie one after the other in their bank. -/
theorem tileBits_eq_tileIndex (p : Ppu) (bank o k : Nat) :
    tileBits p bank o k =
      tileIndex (p.vram.get (bank * 0x2000 + o)) (p.vram.get (bank * 0x2000 + (o + 1))) k := by
  rw [tileBits, vramAt, vramAt, tileIndex, bit1, bit1, bitOf, bitOf]

theorem vramAt_zero (p : Ppu) (i : Nat) : vramAt p 0 i = p.vram.get i := by rw [vramAt, Nat.zero_mul, Nat.zero_add]

theorem bankOffset_eq (b : Bool) : (if b then 0x2000 else 0 : Nat) = b.toNat * 0x2000 := by cases b <;> rfl

/-- 61 R611: a signed tile number n ≥ 128 is n - 256, counted from 0x1000. -/
theorem tileBase_eq (lcdc n : Byte) :
    tileBase lcdc n = if lcdc.getLsbD 4 then n.toNat * 16
      else if n.toNat < 128 then 0x1000 + n.toNat * 16 else n.toNat * 16 := by
  have hn : n.toInt = if n.toNat < 128 then (n.toNat : Int) else n.toNat - 256 := by
    rw [BitVec.toInt_eq_toNat_cond]
    split <;> split <;> omega
  rw [tileBase, hn, bitOf]
  split
  · rfl
  · split <;> omega

theorem tilePixel_eq_tileSpec (cgb : Bool) (p : Ppu) (mapOff col row : Nat) :
    tilePixel cgb p mapOff col row = tileSpec cgb p mapOff col row := by
  simp only [tilePixel, tileSpec, vramAt_zero, bankOffset_eq, tileBase_eq, Nat.add_assoc, tileBits_eq_tileIndex]
  rfl

theorem bgBlank_eq_false_iff {cgb : Bool} {p : Ppu} : bgBlank cgb p = false ↔ cgb = true ∨ p.lcdc.getLsbD 0 = true := by
  rw [bgBlank, bitOf]
  cases cgb <;> simp

theorem windowCovers_iff {cgb : Bool} {p : Ppu} {x ly : Nat} :
    windowCovers cgb p x ly = true ↔ windowSpec cgb p x ly := by
  have hwx : p.wx.toNat ≤ x + 7 ↔ (p.wx.toNat : Int) - 7 ≤ x := by omega
  simp only [windowCovers, windowSpec, Bool.and_eq_true, decide_eq_true_eq, Bool.not_eq_true', bgBlank_eq_false_iff, hwx,
    and_assoc]
  rfl

theorem windowPixel_eq_spec (cgb : Bool) (p : Ppu) (x ly : Nat) :
    windowPixel cgb p x ly = windowPixelSpec cgb p x ly := tilePixel_eq_tileSpec _ _ _ _ _

theorem bgPixel_eq_spec (cgb : Bool) (p : Ppu) (x ly : Nat) : bgPixel cgb p x ly = backgroundSpec cgb p x ly :=
  tilePixel_eq_tileSpec _ _ _ _ _

theorem bgWindowPixel_of_blank {cgb : Bool} {p : Ppu} (x ly : Nat) (hc : cgb = false) (h : p.lcdc.getLsbD 0 = false) :
    bgWindowPixel cgb p x ly = (0, 0, false) := by
  have hb : bgBlank cgb p = true := by rw [bgBlank, bitOf, hc, h]; rfl
  rw [bgWindowPixel, if_pos hb]

theorem bgWindowPixel_of_window {cgb : Bool} {p : Ppu} {x ly : Nat} (h : windowSpec cgb p x ly) :
    bgWindowPixel cgb p x ly = windowPixelSpec cgb p x ly := by
  obtain ⟨-, -, -, hshown⟩ := id h
  rw [bgWindowPixel, bgBlank_eq_false_iff.mpr hshown, if_neg Bool.false_ne_true, if_pos (windowCovers_iff.mpr h), windowPixel_eq_spec]

theorem bgWindowPixel_of_background {cgb : Bool} {p : Ppu} {x ly : Nat} (hw : ¬windowSpec cgb p x ly)
    (h : cgb = true ∨ p.lcdc.getLsbD 0 = true) : bgWindowPixel cgb p x ly = backgroundSpec cgb p x ly := by
  rw [bgWindowPixel, bgBlank_eq_false_iff.mpr h, if_neg Bool.false_ne_true, if_neg (mt windowCovers_iff.mp hw),
    bgPixel_eq_spec]

/-! ## A line's sprites and their order (61 R617, R618) -/

theorem spriteCovers_eq (p : Ppu) (ly : Nat) (s : Sprite) :
    spriteCovers p.lcdc ly s = decide ((s.y.toNat : Int) - 16 ≤ ly ∧
      (ly : Int) < (s.y.toNat : Int) - 16 + (if p.lcdc.getLsbD 2 then 16 else 8)) := by
  rw [spriteCovers, spriteHeight, bitOf, ← Bool.decide_and, decide_eq_decide]
  split <;> omega

theorem insertByX_perm (s : Sprite) (l : List Sprite) : (insertByX s l).Perm (l ++ [s]) := by
  induction l with
  | nil => exact .refl _
  | cons t ts ih =>
    rw [insertByX]
    split
    · exact (List.perm_append_singleton s (t :: ts)).symm
    · exact ih.cons t

theorem sortByX_perm (l done : List Sprite) : (sortByX l done).Perm (done ++ l) := by
  induction l generalizing done with
  | nil => rw [sortByX, List.append_nil]
  | cons s ss ih =>
    have hins := (insertByX_perm s done).append_right ss
    rw [List.append_assoc] at hins
    exact (ih _).trans hins

/-- A list in the order of X. -/
def SortedByX (l : List Sprite) : Prop := l.Pairwise fun s t => s.x.toNat ≤ t.x.toNat

theorem insertByX_sorted {s : Sprite} {l : List Sprite} (h : SortedByX l) : SortedByX (insertByX s l) := by
  induction l with
  | nil => exact List.pairwise_singleton _ s
  | cons t ts ih =>
    obtain ⟨hle, hts⟩ := List.pairwise_cons.mp h
    rw [insertByX]
    split
    · next hlt =>
      refine List.pairwise_cons.mpr ⟨fun u hu => ?_, h⟩
      obtain rfl | hu := List.mem_cons.mp hu
      · exact hlt.le
      · exact hlt.le.trans (hle u hu)
    · next hge =>
      refine List.pairwise_cons.mpr ⟨fun u hu => ?_, ih hts⟩
      obtain hu | hu := List.mem_append.mp ((insertByX_perm s ts).mem_iff.mp hu)
      · exact hle u hu
      · rw [List.mem_singleton.mp hu]
        exact Nat.le_of_not_lt hge

/-- An inserted sprite comes after those with its X. -/
theorem filter_insertByX {s : Sprite} {l : List Sprite} (h : SortedByX l) (v : Byte) :
    (insertByX s l).filter (fun u => decide (u.x = v)) = (l ++ [s]).filter fun u => decide (u.x = v) := by
  induction l with
  | nil => rfl
  | cons t ts ih =>
    obtain ⟨hle, hts⟩ := List.pairwise_cons.mp h
    rw [insertByX]
    split
    · next hlt =>
      rw [List.filter_append]
      obtain hsv | hsv := eq_or_ne s.x v
      · have hnone : (t :: ts).filter (fun u => decide (u.x = v)) = [] := by
          refine List.filter_eq_nil_iff.mpr fun u hu => ?_
          have hlt : s.x.toNat < u.x.toNat := by
            obtain rfl | hu := List.mem_cons.mp hu
            · exact hlt
            · exact hlt.trans_le (hle u hu)
          rw [decide_eq_true_eq, ← hsv]
          exact fun e => absurd (congrArg BitVec.toNat e) hlt.ne'
        have hs (l : List Sprite) := List.filter_cons_of_pos (p := fun u => decide (u.x = v)) (l := l)
          (decide_eq_true hsv)
        rw [hs, hs, hnone]
        rfl
      · have hs (l : List Sprite) := List.filter_cons_of_neg (p := fun u => decide (u.x = v)) (l := l)
          (fun e => hsv (of_decide_eq_true e))
        rw [hs, hs, List.filter_nil, List.append_nil]
    · rw [List.cons_append, List.filter_cons, List.filter_cons, ih hts]

theorem sortByX_sorted (l : List Sprite) {done : List Sprite} (h : SortedByX done) : SortedByX (sortByX l done) := by
  induction l generalizing done with
  | nil => exact h
  | cons s ss ih => exact ih (insertByX_sorted h)

theorem filter_sortByX (l : List Sprite) {done : List Sprite} (h : SortedByX done) (v : Byte) :
    (sortByX l done).filter (fun u => decide (u.x = v)) = (done ++ l).filter fun u => decide (u.x = v) := by
  induction l generalizing done with
  | nil => rw [sortByX, List.append_nil]
  | cons s ss ih =>
    rw [sortByX, ih (insertByX_sorted h), List.filter_append, filter_insertByX h, ← List.filter_append,
      List.append_assoc]
    rfl

theorem selectSprites_dmg (p : Ppu) (ly : Nat) : selectSprites false p ly = sortByX (selectSprites true p ly) [] := rfl

theorem selectSprites_cgb (p : Ppu) (ly : Nat) :
    selectSprites true p ly = (((List.range 40).map (spriteAt p)).filter fun s =>
      decide ((s.y.toNat : Int) - 16 ≤ ly ∧
        (ly : Int) < (s.y.toNat : Int) - 16 + (if p.lcdc.getLsbD 2 then 16 else 8))).take 10 := by
  simp only [selectSprites, if_true, funext (spriteCovers_eq p ly)]

/-! ## The pixel of a sprite (61 R610, R615) -/

theorem spritePixel_of_outside (cgb : Bool) (p : Ppu) {s : Sprite} {x : Nat} (ly : Nat)
    (h : (x : Int) < (s.x.toNat : Int) - 8 ∨ (s.x.toNat : Int) - 8 + 7 < x) : spritePixel cgb p s x ly = 0 :=
  if_pos (show x + 8 < s.x.toNat ∨ 7 < x + 8 - s.x.toNat by omega)

/-- 61 R615: a sprite of 16 rows ignores bit 0 of its tile number. -/
theorem toNat_and_0xFE (v : Byte) : (v &&& 0xFE).toNat = v.toNat / 2 * 2 := by revert v; decide

theorem spriteTile_eq (p : Ppu) (s : Sprite) :
    (if spriteHeight p.lcdc = 16 then s.tile &&& 0xFE else s.tile).toNat =
      if p.lcdc.getLsbD 2 then s.tile.toNat / 2 * 2 else s.tile.toNat := by
  rw [spriteHeight, bitOf]
  cases p.lcdc.getLsbD 2
  · rw [if_neg Bool.false_ne_true, if_neg Bool.false_ne_true, if_neg (by decide)]
  · rw [if_pos rfl, if_pos rfl, if_pos rfl, toNat_and_0xFE]

theorem spriteBank_eq (cgb b : Bool) : (if cgb && b then 0x2000 else 0 : Nat) = (if cgb then b.toNat else 0) * 0x2000 := by
  cases cgb
  · rw [Bool.false_and, if_neg Bool.false_ne_true, if_neg Bool.false_ne_true, Nat.zero_mul]
  · exact bankOffset_eq b

theorem spritePixel_of_inside (cgb : Bool) (p : Ppu) {s : Sprite} {x ly col row : Nat} (hx : x + 8 = s.x.toNat + col)
    (hcol : col ≤ 7) (hy : ly + 16 = s.y.toNat + row) :
    spritePixel cgb p s x ly = tileBits p (if cgb then (s.flags.getLsbD 3).toNat else 0)
      ((if p.lcdc.getLsbD 2 then s.tile.toNat / 2 * 2 else s.tile.toNat) * 16 +
        2 * (if s.flags.getLsbD 6 then spriteRows p - 1 - row else row))
      (if s.flags.getLsbD 5 then 7 - col else col) := by
  have hc : x + 8 - s.x.toNat = col := by omega
  have hr : ly + 16 - s.y.toNat = row := by omega
  rw [spritePixel, hc, hr, if_neg (by omega)]
  simp only [spriteTile_eq, spriteBank_eq, Nat.add_assoc, tileBits_eq_tileIndex]
  rfl

theorem firstOpaque_eq_find? (cgb : Bool) (p : Ppu) (x ly : Nat) (l : List Sprite) :
    firstOpaque cgb p x ly l =
      (l.find? fun s => decide (spritePixel cgb p s x ly ≠ 0)).map fun s => (s, spritePixel cgb p s x ly) := by
  induction l with
  | nil => rfl
  | cons s ss ih =>
    rw [firstOpaque, List.find?_cons, ih]
    split
    · next h => rw [decide_eq_false (not_not.mpr h)]
    · next h => rw [decide_eq_true h, Option.map_some]

theorem firstOpaque_append_cons {cgb : Bool} {p : Ppu} {x ly : Nat} {pre : List Sprite} {s : Sprite}
    (post : List Sprite) (hpre : ∀ q ∈ pre, spritePixel cgb p q x ly = 0) (hs : spritePixel cgb p s x ly ≠ 0) :
    firstOpaque cgb p x ly (pre ++ s :: post) = some (s, spritePixel cgb p s x ly) := by
  have hfind : (pre ++ s :: post).find? (fun q => decide (spritePixel cgb p q x ly ≠ 0)) = some s :=
    List.find?_eq_some_iff_append.mpr ⟨decide_eq_true hs, pre, post, rfl, fun q hq => by
      rw [hpre q hq]
      rfl⟩
  rw [firstOpaque_eq_find?, hfind, Option.map_some]

/-! ## The background over a sprite (61 R619) -/

theorem bgWins_dmg_iff {p : Ppu} {s : Sprite} {idx : BitVec 2} {prio : Bool} :
    bgWins false p s idx prio = true ↔ s.flags.getLsbD 7 = true ∧ idx ≠ 0 := by
  simp [bgWins, bitOf]

theorem bgWins_cgb_iff {p : Ppu} {s : Sprite} {idx : BitVec 2} {prio : Bool} :
    bgWins true p s idx prio = true ↔
      p.lcdc.getLsbD 0 = true ∧ (prio = true ∨ s.flags.getLsbD 7 = true) ∧ idx ≠ 0 := by
  simp [bgWins, bitOf, and_assoc]

/-! ## Colours (61 R620, R621) -/

/-- 61 R621: a palette entry is little-endian, and its top bit is not used. -/
theorem cgbColour_eq_spec (mem : Memory) (pal : BitVec 3) (c : BitVec 2) :
    Pixel.colour (cgbColour mem pal c) = cgbColourSpec mem pal.toNat c.toNat := by
  rw [cgbColour, cgbColourSpec]
  generalize mem.get (8 * pal.toNat + 2 * c.toNat) = lo
  generalize mem.get (8 * pal.toNat + 2 * c.toNat + 1) = hi
  refine congrArg Pixel.colour (BitVec.eq_of_toNat_eq ?_)
  rw [BitVec.toNat_append, BitVec.extractLsb'_toNat, ← Nat.shiftLeft_add_eq_or_of_lt lo.isLt, Nat.shiftLeft_eq,
    BitVec.toNat_ofNat, Nat.shiftRight_zero]
  omega

theorem shade_eq_spec (pal : Byte) (idx : BitVec 2) : Pixel.shade (shadeOf pal idx) = shadeSpec pal idx := by
  refine congrArg Pixel.shade (BitVec.eq_of_toNat_eq ?_)
  rw [shadeOf, BitVec.extractLsb'_toNat, BitVec.toNat_ushiftRight, BitVec.toNat_ofNat, Nat.shiftRight_zero,
    Nat.and_two_pow_sub_one_eq_mod _ 2, Nat.mod_mod]

theorem bgColour_of_blank {p : Ppu} (idx : BitVec 2) (pal : BitVec 3) (h : p.lcdc.getLsbD 0 = false) :
    bgColour false p idx pal = .shade 0 := by
  have hb : bgBlank false p = true := by rw [bgBlank, bitOf, h]; rfl
  exact if_pos hb

theorem bgColour_dmg {p : Ppu} (idx : BitVec 2) (pal : BitVec 3) (h : p.lcdc.getLsbD 0 = true) :
    bgColour false p idx pal = shadeSpec p.bgp idx := by
  rw [bgColour, bgBlank_eq_false_iff.mpr (.inr h)]
  exact shade_eq_spec p.bgp idx

theorem objColour_cgb (p : Ppu) (s : Sprite) (idx : BitVec 2) :
    objColour true p s idx = cgbColourSpec p.objPal (s.flags.toNat % 8) idx.toNat :=
  (cgbColour_eq_spec p.objPal (s.flags.extractLsb' 0 3) idx).trans
    (by rw [BitVec.extractLsb'_toNat, Nat.shiftRight_zero])

theorem rgb_colour (v : BitVec 15) : (Pixel.colour v).rgb =
    (Config.colorLUT (BitVec.ofNat 5 v.toNat), Config.colorLUT (BitVec.ofNat 5 (v.toNat / 32)),
      Config.colorLUT (BitVec.ofNat 5 (v.toNat / 1024))) := by
  rw [Pixel.rgb, BitVec.extractLsb', BitVec.extractLsb', BitVec.extractLsb', Nat.shiftRight_eq_div_pow _ 5,
    Nat.shiftRight_eq_div_pow _ 10]
  rfl

/-! ## The composed line (61 R610) -/

theorem composePixel_eq_pixelSpec (cgb : Bool) (p : Ppu) (ly x : Nat) :
    composePixel cgb p ly (lineSprites cgb p ly) x = pixelSpec cgb p ly x := by
  rw [composePixel, pixelSpec, lineSprites, bitOf, firstOpaque_eq_find?]
  cases (if p.lcdc.getLsbD 1 then selectSprites cgb p ly else []).find? fun s =>
    decide (spritePixel cgb p s x ly ≠ 0) <;> rfl

theorem renderLine_screen (cgb : Bool) (ly : Nat) (p : Ppu) :
    (renderLine cgb ly p).screen = p.screen.setRow ly ((List.range 160).map (pixelSpec cgb p ly)) := by
  rw [renderLine, funext (composePixel_eq_pixelSpec cgb p ly)]
  rfl

theorem Frame.row_setRow_same (f : Frame) (y : Nat) (row : List Pixel) : (f.setRow y row).row y = row := by
  induction f with
  | nil => exact if_pos rfl
  | cons c t ih =>
    obtain ⟨k, r⟩ := c
    rw [Frame.setRow]
    split
    · exact if_pos rfl
    · split
      · exact if_pos rfl
      · next hne => exact (if_neg hne).trans ih

theorem Frame.row_setRow_of_ne {z y : Nat} (h : z ≠ y) (f : Frame) (row : List Pixel) :
    (f.setRow y row).row z = f.row z := by
  induction f with
  | nil => exact if_neg h
  | cons c t ih =>
    obtain ⟨k, r⟩ := c
    rw [Frame.setRow]
    split
    · exact if_neg h
    · split
      · next e => exact (if_neg h).trans (if_neg (e ▸ h)).symm
      · rw [Frame.row, Frame.row, ih]

/-- Settles O56: each part of a line is one lemma about the function of the model that computes it. -/
theorem linePixels : Obligations.LinePixels := by
  have hnil : SortedByX [] := List.Pairwise.nil
  refine ⟨fun p ly => ⟨selectSprites_cgb p ly, sortByX_perm _ [], sortByX_sorted _ hnil, filter_sortByX _ hnil⟩,
    fun cgb p x ly pre post s => firstOpaque_append_cons post, fun p i => rfl, fun cgb p s x ly =>
      ⟨spritePixel_of_outside cgb p ly, fun col row hx hcol hy _ =>
        spritePixel_of_inside cgb p (by omega) hcol (by omega)⟩,
    fun p s idx prio => ⟨bgWins_dmg_iff, fun h => ?_, fun h => bgWins_cgb_iff.trans (and_iff_right h)⟩,
    fun cgb p x ly => ⟨bgWindowPixel_of_blank x ly, bgWindowPixel_of_window, bgWindowPixel_of_background⟩,
    fun p s idx pal => ⟨cgbColour_eq_spec p.bgPal pal idx, objColour_cgb p s idx, bgColour_dmg idx pal,
      bgColour_of_blank idx pal, shade_eq_spec _ idx⟩,
    fun k v => ⟨rfl, rgb_colour v⟩, fun cgb p ly => ⟨?_, fun y hy => ?_, rfl⟩⟩
  · exact Bool.eq_false_iff.mpr fun hw => absurd (h.symm.trans (bgWins_cgb_iff.mp hw).1) Bool.false_ne_true
  · rw [renderLine_screen, Frame.row_setRow_same]
  · rw [renderLine_screen, Frame.row_setRow_of_ne hy]

end Sys2Proof.Machine
end

section
/-! PROOF. The PPU's step (61 R602, R603): what the counters, the mode change and the LY = LYC comparison leave, each
once, and their composition. -/

open Sys2Proof.Claims

namespace Sys2Proof.Machine

/-! ## Requests (60 R512) -/

theorem or_no_request (r : BitVec 5) : r ||| 0 = r := BitVec.or_zero

theorem request_ite (c : Prop) [Decidable c] (i : Nat) (s : State) :
    (if c then request i s else s) = { s with ifr := s.ifr ||| if c then 1#5 <<< i else 0 } := by
  split
  · rfl
  · rw [or_no_request]

/-- Two requests of one source. -/
theorem request_or_request (r b : BitVec 5) (p q : Prop) [Decidable p] [Decidable q] :
    r ||| (if p then b else 0) ||| (if q then b else 0) = r ||| if p ∨ q then b else 0 := by
  by_cases hp : p
  · rw [if_pos hp, if_pos (Or.inl hp)]
    split
    · rw [BitVec.or_assoc, BitVec.or_self]
    · exact or_no_request _
  · rw [if_neg hp, or_no_request, if_congr (or_iff_right hp) rfl rfl]

/-! ## The counters of a PPU step (61 R601, R603, R616) -/

/-- 61 R603: the line after a line end. -/
theorem nextLy_toNat {y : Byte} (h : y.toNat ≤ 153) :
    (if y + 1 = 154 then 0 else y + 1 : Byte).toNat = if y.toNat = 153 then 0 else y.toNat + 1 := by
  have hadd : (y + 1).toNat = y.toNat + 1 := by
    rw [BitVec.toNat_add]
    exact Nat.mod_eq_of_lt (show y.toNat + 1 < 256 by omega)
  have h154 : y + 1 = 154 ↔ y.toNat = 153 := by
    rw [← BitVec.toNat_inj, hadd]
    exact ⟨Nat.succ.inj, congrArg Nat.succ⟩
  split
  · next e => rw [if_pos (h154.mp e)]; rfl
  · next e => rw [if_neg (mt h154.mpr e), hadd]

/-- 61 R603, R616: a line end moves LY; at line 144 it publishes the frame and requests V-blank. -/
theorem nextLine_of_ly {ly : Nat} {s : State} (h : s.ppu.ly.toNat ≤ 153)
    (hly : ly = if s.ppu.ly.toNat = 153 then 0 else s.ppu.ly.toNat + 1) :
    ∃ y : Byte, y.toNat = ly ∧ nextLine s = { s with
      ppu.ly := y
      ppu.prepared := if ly = 144 then s.ppu.screen else s.ppu.prepared
      ifr := s.ifr ||| if ly = 144 then 0b00001#5 else 0 } := by
  refine ⟨_, (nextLy_toNat h).trans hly.symm, ?_⟩
  have h144 : (if s.ppu.ly + 1 = 154 then 0 else s.ppu.ly + 1 : Byte) = 144 ↔ ly = 144 := by
    rw [← BitVec.toNat_inj, nextLy_toNat h, ← hly]
    rfl
  rw [nextLine]
  by_cases e : ly = 144
  · simp only [if_pos (h144.mpr e), if_pos e]
    rfl
  · simp only [if_neg (mt h144.mp e), if_neg e, or_no_request]

/-- 61 R603: over at most a line of cycles the counters end at most one line. -/
theorem advanceDot_of_le {spd c ly dot : Nat} {wraps : Bool} {s : State} (hc : c ≤ 456 * spd)
    (hdot : s.ppu.dot < 456 * spd) (h153 : s.ppu.ly.toNat ≤ 153) (hwraps : wraps = decide (456 * spd ≤ s.ppu.dot + c))
    (hly : ly = if wraps then (if s.ppu.ly.toNat = 153 then 0 else s.ppu.ly.toNat + 1) else s.ppu.ly.toNat)
    (hdot' : dot = if wraps then s.ppu.dot + c - 456 * spd else s.ppu.dot + c) :
    ∃ y : Byte, y.toNat = ly ∧ advanceDot spd c s = { s with
      ppu.ly := y
      ppu.dot := dot
      ppu.prepared := if wraps = true ∧ ly = 144 then s.ppu.screen else s.ppu.prepared
      ifr := s.ifr ||| if wraps = true ∧ ly = 144 then 0b00001#5 else 0 } := by
  have hline : Config.lineCycles * spd = 456 * spd := rfl
  cases hw : decide (456 * spd ≤ s.ppu.dot + c) with
  | false =>
    have hlt : s.ppu.dot + c < 456 * spd := Nat.lt_of_not_le (of_decide_eq_false hw)
    subst hwraps
    simp only [hw, Bool.false_eq_true, if_false, false_and] at hly hdot' ⊢
    refine ⟨s.ppu.ly, hly.symm, ?_⟩
    rw [advanceDot, hline, Nat.div_eq_of_lt hlt, Nat.mod_eq_of_lt hlt, hdot', or_no_request]
    rfl
  | true =>
    have hle : 456 * spd ≤ s.ppu.dot + c := of_decide_eq_true hw
    have hdiv : (s.ppu.dot + c) / (456 * spd) = 1 :=
      Nat.div_eq_of_lt_le (by omega) (by omega)
    have hmod : (s.ppu.dot + c) % (456 * spd) = s.ppu.dot + c - 456 * spd := by
      rw [Nat.mod_eq_sub_mod hle, Nat.mod_eq_of_lt (by omega)]
    subst hwraps
    simp only [hw, if_true, true_and] at hly hdot' ⊢
    obtain ⟨y, hy, hnext⟩ := nextLine_of_ly (s := { s with ppu.dot := dot }) h153 hly
    refine ⟨y, hy, ?_⟩
    rw [advanceDot, hline, hdiv, hmod, ← hdot']
    exact hnext

theorem advanceDot_hdma (spd c : Nat) (s : State) : (advanceDot spd c s).hdma = s.hdma := by rw [advanceDot_eq]

theorem blockReadable_advanceDot (a : Word) (n spd c : Nat) (s : State) :
    blockReadable a n (advanceDot spd c s) = blockReadable a n s :=
  blockReadable_congr a n (by rw [advanceDot_eq])

theorem modeAt_eq_modeOf (spd : Nat) (y : Byte) (dot : Nat) : modeAt spd y dot = modeOf spd y.toNat dot := by
  have h144 : 144 ≤ y ↔ 144 ≤ y.toNat := BitVec.le_def
  simp only [modeAt, modeOf, h144]
  rfl

/-! ## Entering a mode (61 R603, 20 R144) -/

/-- What only an H-blank block changes: VRAM, the draws and the HDMA unit. -/
def withBlock (v : Memory) (d : Nat) (h : Hdma) (s : State) : State :=
  { s with ppu.vram := v, draws := d, hdma := h }

/-- 20 R144: with no transfer active the block does nothing; with one it counts one block down. -/
theorem hdmaHblankBlock_of_readable {s : State} (hread : s.hdma.active = true → blockReadable s.hdma.src 16 s = true) :
    ∃ v d h, hdmaHblankBlock s = .ok () (withBlock v d h s) ∧
      h.remaining = (if s.hdma.active = true then s.hdma.remaining - 1 else s.hdma.remaining) ∧
      (s.hdma.active = false → h = s.hdma ∧ v = s.ppu.vram ∧ d = s.draws) := by
  cases ha : s.hdma.active with
  | false =>
    exact ⟨s.ppu.vram, s.draws, s.hdma, by rw [hdmaHblankBlock, ha]; rfl, rfl, fun _ => ⟨rfl, rfl, rfl⟩⟩
  | true =>
    obtain ⟨t, ht⟩ := copyBytes_ok 16 s (hread ha)
    obtain ⟨m, d, a, b, hstate⟩ := copyBytes_state 16 s
    rw [ht, Res.state_ok] at hstate
    subst hstate
    exact ⟨m, d, _, by rw [hdmaHblankBlock, if_pos ha, ht]; rfl, rfl, nofun⟩

/-- The PPU with the line of mode 3 drawn. -/
def drawnFor (m : BitVec 2) (s : State) : Ppu := if m = 3 then renderLine s.cgbMode s.ppu.ly.toNat s.ppu else s.ppu

theorem statSelects_iff {p : Ppu} {m : BitVec 2} : statSelects p m = true ↔
    m = 0 ∧ p.statSel.getLsbD 0 = true ∨ m = 1 ∧ p.statSel.getLsbD 1 = true ∨ m = 2 ∧ p.statSel.getLsbD 2 = true := by
  simp only [statSelects, Bool.or_eq_true, Bool.and_eq_true, decide_eq_true_eq, or_assoc]

/-- Drawing changes the screen and the line's background indexes and priorities, nothing else. -/
theorem drawnFor_eq (m : BitVec 2) (s : State) : drawnFor m s = { s.ppu with
    bgIndex := (drawnFor m s).bgIndex, bgAttrPrio := (drawnFor m s).bgAttrPrio, screen := (drawnFor m s).screen } := by
  rw [drawnFor]
  split <;> rfl

/-- The STAT request of a mode, and the mode, both after the block (61 R603). -/
theorem enterMode_eq (m : BitVec 2) (s : State) :
    enterMode m s = (if m = 0 then hdmaHblankBlock s else .ok () { s with ppu := drawnFor m s }).then fun _ t =>
      { t with ppu.mode := m, ifr := t.ifr ||| if statSelects t.ppu m = true then 0b00010#5 else 0 } := by
  have hblock : (if m = 0 then hdmaHblankBlock (if m = 3 then { s with ppu := renderLine s.cgbMode s.ppu.ly.toNat s.ppu }
        else s) else .ok () (if m = 3 then { s with ppu := renderLine s.cgbMode s.ppu.ly.toNat s.ppu } else s)) =
      if m = 0 then hdmaHblankBlock s else .ok () { s with ppu := drawnFor m s } := by
    by_cases h0 : m = 0
    · subst h0; rfl
    · rw [if_neg h0, if_neg h0, drawnFor]
      split <;> rfl
  simp only [enterMode, hblock, request_ite]
  rfl

/-- 61 R603: a mode change draws the line, copies a block, requests STAT and sets the mode. -/
theorem enterMode_of_readable (m : BitVec 2) {s : State}
    (hread : s.hdma.active = true → blockReadable s.hdma.src 16 s = true) :
    ∃ v d h, enterMode m s = .ok () (withBlock v d h { s with
        ppu := { drawnFor m s with mode := m }
        ifr := s.ifr ||| if statSelects s.ppu m = true then 0b00010#5 else 0 }) ∧
      h.remaining = (if m = 0 ∧ s.hdma.active = true then s.hdma.remaining - 1 else s.hdma.remaining) ∧
      (s.hdma.active = false ∨ m ≠ 0 → h = s.hdma ∧ v = s.ppu.vram ∧ d = s.draws) := by
  by_cases h0 : m = 0
  · subst h0
    obtain ⟨v, d, h, hblock, hrem, hkeep⟩ := hdmaHblankBlock_of_readable hread
    refine ⟨v, d, h, ?_, by simpa only [true_and] using hrem, fun hor => hkeep (hor.resolve_right fun hne => hne rfl)⟩
    rw [enterMode_eq, if_pos rfl, hblock]
    rfl
  · refine ⟨s.ppu.vram, s.draws, s.hdma, ?_, by rw [if_neg fun e => h0 e.1], fun _ => ⟨rfl, rfl, rfl⟩⟩
    rw [enterMode_eq, if_neg h0, drawnFor_eq]
    rfl

/-- 61 R603: the mode of the new position is entered when it is another one. -/
theorem changeMode_of_readable (m : BitVec 2) {s : State}
    (hread : s.hdma.active = true → blockReadable s.hdma.src 16 s = true) :
    ∃ v d h, (if m ≠ s.ppu.mode then enterMode m s else .ok () s) = .ok () (withBlock v d h { s with
        ppu := { (if m ≠ s.ppu.mode then drawnFor m s else s.ppu) with mode := m }
        ifr := s.ifr ||| if m ≠ s.ppu.mode ∧ statSelects s.ppu m = true then 0b00010#5 else 0 }) ∧
      h.remaining = (if m = 0 ∧ m ≠ s.ppu.mode ∧ s.hdma.active = true then s.hdma.remaining - 1
        else s.hdma.remaining) ∧
      (s.hdma.active = false ∨ m ≠ 0 ∨ m = s.ppu.mode → h = s.hdma ∧ v = s.ppu.vram ∧ d = s.draws) := by
  by_cases hm : m = s.ppu.mode
  · have hne : ¬m ≠ s.ppu.mode := not_not.mpr hm
    refine ⟨s.ppu.vram, s.draws, s.hdma, ?_, by rw [if_neg fun e => hne e.2.1], fun _ => ⟨rfl, rfl, rfl⟩⟩
    rw [if_neg hne, if_neg hne, if_neg fun e => hne e.1, or_no_request, hm]
    rfl
  · obtain ⟨v, d, h, hmode, hrem, hkeep⟩ := enterMode_of_readable m hread
    refine ⟨v, d, h, ?_, ?_, fun hor => hkeep ?_⟩
    · simp only [ne_eq, hm, not_false_eq_true, if_true, true_and, hmode]
    · simp only [ne_eq, hm, not_false_eq_true, true_and, hrem]
    · simpa only [hm, or_false] using hor

/-- The PPU after a mode change. -/
theorem changedPpu_eq (m : BitVec 2) (s : State) :
    ∃ a b, (if m ≠ s.ppu.mode then drawnFor m s else s.ppu) = { s.ppu with
      bgIndex := a, bgAttrPrio := b, screen := if m = 3 ∧ m ≠ s.ppu.mode
        then (renderLine s.cgbMode s.ppu.ly.toNat s.ppu).screen else s.ppu.screen } := by
  by_cases hm : m = s.ppu.mode
  · exact ⟨s.ppu.bgIndex, s.ppu.bgAttrPrio, by rw [if_neg (not_not.mpr hm), if_neg fun e => e.2 hm]⟩
  · refine ⟨(drawnFor m s).bgIndex, (drawnFor m s).bgAttrPrio, ?_⟩
    simp only [ne_eq, hm, not_false_eq_true, and_true, if_true, drawnFor]
    split <;> rfl

/-! ## The LY = LYC comparison (61 R603) -/

theorem compareLyc_eq (s : State) : compareLyc s = { s with
    ppu.prevCoin := decide (s.ppu.ly = s.ppu.lyc)
    ifr := s.ifr ||| if s.ppu.ly = s.ppu.lyc ∧ s.ppu.prevCoin = false ∧ s.ppu.statSel.getLsbD 3 = true
      then 0b00010#5 else 0 } := by
  simp only [compareLyc, request_ite, Bool.and_eq_true, decide_eq_true_eq, Bool.not_eq_true', and_assoc]
  rfl

/-! ## The mode change and the comparison together (61 R603) -/

/-- From the state `s` that the counters leave to the end of a PPU step, `m` being the mode of the new position. -/
structure EntersMode (m : BitVec 2) (s t : State) : Prop where
  ly : t.ppu.ly = s.ppu.ly
  dot : t.ppu.dot = s.ppu.dot
  mode : t.ppu.mode = m
  prevCoin : t.ppu.prevCoin = decide (s.ppu.ly = s.ppu.lyc)
  prepared : t.ppu.prepared = s.ppu.prepared
  screen : t.ppu.screen = if m = 3 ∧ m ≠ s.ppu.mode
    then (renderLine s.cgbMode s.ppu.ly.toNat s.ppu).screen else s.ppu.screen
  ifr : t.ifr = s.ifr ||| if m ≠ s.ppu.mode ∧ statSelects s.ppu m = true ∨
      s.ppu.ly = s.ppu.lyc ∧ s.ppu.prevCoin = false ∧ s.ppu.statSel.getLsbD 3 = true then 0b00010#5 else 0
  remaining : t.hdma.remaining = if m = 0 ∧ m ≠ s.ppu.mode ∧ s.hdma.active = true
    then s.hdma.remaining - 1 else s.hdma.remaining
  noBlock : s.hdma.active = false ∨ m ≠ 0 ∨ m = s.ppu.mode →
    t.hdma = s.hdma ∧ t.ppu.vram = s.ppu.vram ∧ t.draws = s.draws

theorem entersMode_of_readable (m : BitVec 2) {s : State}
    (hread : s.hdma.active = true → blockReadable s.hdma.src 16 s = true) :
    ∃ t, ((if m ≠ s.ppu.mode then enterMode m s else .ok () s).then fun _ t => compareLyc t) = .ok () t ∧
      EntersMode m s t := by
  obtain ⟨v, d, h, hchange, hrem, hkeep⟩ := changeMode_of_readable m hread
  obtain ⟨a, b, hppu⟩ := changedPpu_eq m s
  rw [hppu] at hchange
  rw [hchange, Res.then_ok, compareLyc_eq]
  exact ⟨_, rfl, {
    ly := rfl, dot := rfl, mode := rfl, prevCoin := rfl, prepared := rfl, screen := rfl
    ifr := request_or_request _ _ _ _, remaining := hrem, noBlock := hkeep }⟩

/-! ## The step (61 R602, R603) -/

section

variable {s t : State}

theorem PpuKeeps.timer_eq (h : PpuKeeps s t) : t.timer = s.timer := (congrArg State.timer h.state).trans rfl
theorem PpuKeeps.cart_eq (h : PpuKeeps s t) : t.cart = s.cart := (congrArg State.cart h.state).trans rfl
theorem PpuKeeps.wram_eq (h : PpuKeeps s t) : t.wram = s.wram := (congrArg State.wram h.state).trans rfl
theorem PpuKeeps.hram_eq (h : PpuKeeps s t) : t.hram = s.hram := (congrArg State.hram h.state).trans rfl
theorem PpuKeeps.oam_eq (h : PpuKeeps s t) : t.ppu.oam = s.ppu.oam := (congrArg Ppu.oam h.ppu).trans rfl

end

/-- Drawing does not look at LY, the dot counter or the published frame. -/
theorem renderLine_screen_counters (cgb : Bool) (p : Ppu) (y : Byte) (d : Nat) (f : Frame) (ly : Nat) :
    (renderLine cgb ly { p with ly := y, dot := d, prepared := f }).screen =
      p.screen.setRow ly ((List.range 160).map (pixelSpec cgb p ly)) := by
  refine congrArg (p.screen.setRow ly) (List.map_congr_left fun x _ => ?_)
  rw [composePixel_counters, ← composePixel_eq_pixelSpec]
  rfl

theorem ppuStep_of_off {spd c : Nat} {s : State} (h : s.ppu.lcdc.getLsbD 7 = false) :
    ppuStep spd c s = .ok () { s with ppu.ly := 0, ppu.dot := 0, ppu.mode := 0 } :=
  if_neg (Bool.eq_false_iff.mp h)

theorem ppuStep_of_on {spd c : Nat} {s t : State} {m : BitVec 2} (h : s.ppu.lcdc.getLsbD 7 = true)
    (ht : advanceDot spd c s = t) (hm : modeAt spd t.ppu.ly t.ppu.dot = m) :
    ppuStep spd c s = (if m ≠ t.ppu.mode then enterMode m t else .ok () t).then fun _ t => compareLyc t := by
  subst ht hm
  exact if_pos h

/-- Settles O55: the counters, the mode change and the LY = LYC comparison, one after the other; what is left alone by
the model's frame of the step. -/
theorem ppuStep_obligation : Obligations.PpuStep := by
  refine ⟨fun spd c s => ppuStep_of_off, ?_⟩
  intro spd c ly dot m wraps s hon hspd hc hdot h153 hwraps hly hdot' hm hread
  obtain ⟨y, hy, hadv⟩ := advanceDot_of_le (by omega) hdot h153 hwraps hly hdot'
  have hmode : modeAt spd y dot = m := by rw [modeAt_eq_modeOf, hy, hm]
  have hcoin : y = s.ppu.lyc ↔ ly = s.ppu.lyc.toNat := by rw [← BitVec.toNat_inj, hy]
  obtain ⟨t, ht, hent⟩ := entersMode_of_readable m (s := advanceDot spd c s) (by
    rwa [advanceDot_hdma, blockReadable_advanceDot])
  rw [hadv] at ht hent
  have hstep : ppuStep spd c s = .ok () t := (ppuStep_of_on hon hadv hmode).trans ht
  have hkeeps := ppuStep_keeps_of_ok hstep
  refine ⟨t, hstep, (congrArg BitVec.toNat hent.ly).trans hy, hent.dot, hent.mode,
    hent.prevCoin.trans (decide_eq_decide.mpr hcoin), hent.ifr.trans ?_, hent.prepared, hent.screen.trans ?_,
    hent.remaining, hkeeps.cpu_eq, hkeeps.timer_eq, hkeeps.ie_eq, hkeeps.cart_eq, hkeeps.wram_eq, hkeeps.hram_eq,
    hkeeps.oam_eq, hkeeps.fault_eq, hent.noBlock⟩
  · simp only [statSelects_iff, hcoin]
  · rw [renderLine_screen_counters]
    simp only [hy]

end Sys2Proof.Machine
end

section
/-! PROOF. The CPU cannot observe sound (62 R720, R730): two states that differ only in the APU, wave RAM the same, are
carried by each part of a step to such states again, part by part in the order of the model's definitions. -/

open Sys2Proof.Claims

namespace Sys2Proof.Machine

/-! ## States that differ only in sound -/

/-- The second state is the first with another APU over the same wave RAM. -/
theorem exists_apu_of_sameButSound {s t : State} (h : SameButSound s t) :
    ∃ b : Apu, s.apu.wave = b.wave ∧ t = { s with apu := b } := by
  obtain ⟨h1, h2⟩ := h
  exact ⟨t.apu, h2, h1.symm⟩

theorem sameButSound_withApu {s : State} {b : Apu} (h : s.apu.wave = b.wave) : SameButSound s { s with apu := b } :=
  ⟨rfl, h⟩

/-- A change of the state that neither reads nor changes the APU. -/
def Soundless (f : State → State) : Prop := ∀ (s : State) (b : Apu), f { s with apu := b } = { f s with apu := b }

theorem Soundless.apu_eq {f : State → State} (hf : Soundless f) (s : State) : (f s).apu = s.apu := by
  have h : f s = { f s with apu := s.apu } := hf s s.apu
  rw [h]

theorem Soundless.same {f : State → State} (hf : Soundless f) {s t : State} (h : SameButSound s t) :
    SameButSound (f s) (f t) := by
  obtain ⟨b, hb, rfl⟩ := exists_apu_of_sameButSound h
  rw [hf s b]
  exact sameButSound_withApu ((congrArg Apu.wave (hf.apu_eq s)).trans hb)

theorem Soundless.comp {f g : State → State} (hf : Soundless f) (hg : Soundless g) : Soundless fun s => f (g s) :=
  fun s b => (congrArg f (hg s b)).trans (hf (g s) b)

/-! ## Results that differ only in sound -/

/-- Two results of the same kind and the same value or fault, whose states differ only in sound. -/
def SameRes {α : Type} : Res α → Res α → Prop
  | .ok a s, .ok b t => a = b ∧ SameButSound s t
  | .stop q s, .stop r t => q = r ∧ SameButSound s t
  | _, _ => False

section

variable {α β : Type} {x y : Res α} {s t : State}

theorem SameRes.ok (a : α) (h : SameButSound s t) : SameRes (.ok a s) (.ok a t) := ⟨rfl, h⟩

theorem SameRes.stop (r : Fault) (h : SameButSound s t) : SameRes (α := α) (.stop r s) (.stop r t) := ⟨rfl, h⟩

/-- The two ways two results can be the same but for sound. -/
theorem SameRes.cases (h : SameRes x y) :
    (∃ a s t, x = .ok a s ∧ y = .ok a t ∧ SameButSound s t) ∨
      ∃ r s t, x = .stop r s ∧ y = .stop r t ∧ SameButSound s t := by
  cases x with
  | ok a s =>
    cases y with
    | ok b t => exact .inl ⟨a, s, t, rfl, congrArg (Res.ok · t) h.1.symm, h.2⟩
    | stop r t => exact h.elim
  | stop q s =>
    cases y with
    | ok b t => exact h.elim
    | stop r t => exact .inr ⟨q, s, t, rfl, congrArg (Res.stop · t) h.1.symm, h.2⟩

theorem SameRes.bind {k l : α → State → Res β} (hx : SameRes x y)
    (hk : ∀ a s t, SameButSound s t → SameRes (k a s) (l a t)) : SameRes (x.bind k) (y.bind l) := by
  obtain ⟨a, s, t, rfl, rfl, h⟩ | ⟨r, s, t, rfl, rfl, h⟩ := hx.cases
  · exact hk a s t h
  · exact .stop r h

theorem SameRes.then {k l : α → State → State} (hx : SameRes x y)
    (hk : ∀ a s t, SameButSound s t → SameButSound (k a s) (l a t)) : SameRes (x.then k) (y.then l) :=
  hx.bind fun a s t h => .ok () (hk a s t h)

theorem SameRes.ite {c : Prop} [Decidable c] {x' y' : Res α} (hx : c → SameRes x y) (hy : ¬c → SameRes x' y') :
    SameRes (if c then x else x') (if c then y else y') := by
  by_cases h : c
  · rw [if_pos h, if_pos h]; exact hx h
  · rw [if_neg h, if_neg h]; exact hy h

theorem SameRes.outcome {x y : Res Unit} (h : SameRes x y) : SameAnswerButSound x.outcome y.outcome := by
  obtain ⟨_, s, t, rfl, rfl, hst⟩ | ⟨r, s, t, rfl, rfl, hst⟩ := h.cases
  · exact hst
  · exact Soundless.same (f := recordFault r) (fun _ _ => rfl) hst

end

/-! ## The bus (20 R103, R105, R107) -/

/-- A read finds the same bits: of the APU it looks at wave RAM alone (20 R115). -/
theorem peek_eq_of_sameButSound {s t : State} (h : SameButSound s t) (a : Word) : peek a t = peek a s := by
  obtain ⟨b, hb, rfl⟩ := exists_apu_of_sameButSound h
  have hw : b = { b with wave := s.apu.wave } := by rw [hb]
  rw [hw]
  rfl

section

variable {s t : State} (h : SameButSound s t)
include h

theorem sameRes_resolve (r : ReadBits) : SameRes (resolve r s) (resolve r t) := by
  obtain ⟨b, hb, rfl⟩ := exists_apu_of_sameButSound h
  exact .ite (fun _ => .ok _ h) fun _ => .ok _ (sameButSound_withApu hb)

theorem sameRes_busRead (a : Word) : SameRes (busRead a s) (busRead a t) := by
  unfold busRead
  rw [peek_eq_of_sameButSound h a]
  cases peek a s with
  | ok r => exact sameRes_resolve h r
  | error e => exact .stop e h

theorem sameRes_copyByte : SameRes (copyByte s) (copyByte t) := by
  obtain ⟨b, -, rfl⟩ := exists_apu_of_sameButSound h
  refine (sameRes_busRead h s.hdma.src).then fun v s t h => ?_
  obtain ⟨b, hb, rfl⟩ := exists_apu_of_sameButSound h
  exact sameButSound_withApu hb

theorem sameRes_writeCart (n : Nat) (v : Byte) : SameRes (writeCart n v s) (writeCart n v t) := by
  obtain ⟨b, hb, rfl⟩ := exists_apu_of_sameButSound h
  unfold writeCart
  cases writeCartRam s.cart n v with
  | ok c => exact .ok () (sameButSound_withApu hb)
  | error e => exact .stop e h

end

theorem sameRes_oamDma (v : Byte) (n i : Nat) {s t : State} (h : SameButSound s t) :
    SameRes (oamDma v i n s) (oamDma v i n t) := by
  induction n generalizing i s t with
  | zero => exact .ok () h
  | succ n ih =>
    refine (sameRes_busRead h _).bind fun b s t h => ih (i + 1) ?_
    obtain ⟨c, hc, rfl⟩ := exists_apu_of_sameButSound h
    exact sameButSound_withApu hc

theorem sameRes_copyBytes (n : Nat) {s t : State} (h : SameButSound s t) : SameRes (copyBytes n s) (copyBytes n t) := by
  induction n generalizing s t with
  | zero => exact .ok () h
  | succ n ih => exact (sameRes_copyByte h).bind fun _ _ _ h => ih h

section

variable {s t : State} (h : SameButSound s t)
include h

theorem sameRes_writeHdma5 (v : Byte) : SameRes (writeHdma5 v s) (writeHdma5 v t) := by
  obtain ⟨b, hb, rfl⟩ := exists_apu_of_sameButSound h
  refine .ite (fun _ => .ok () (sameButSound_withApu hb)) fun _ => .ite (fun _ => ?_) fun _ =>
    .ok () (sameButSound_withApu hb)
  refine (sameRes_copyBytes _ h).then fun _ s t h => ?_
  obtain ⟨b, hb, rfl⟩ := exists_apu_of_sameButSound h
  exact sameButSound_withApu hb

theorem sameRes_writeCgbIo (p v : Byte) : SameRes (writeCgbIo p v s) (writeCgbIo p v t) := by
  obtain ⟨b, hb, rfl⟩ := exists_apu_of_sameButSound h
  exact .ite (fun _ => .ok () h) fun _ => .ite (fun _ => .ok () (sameButSound_withApu hb)) fun _ =>
    .ite (fun _ => .ok () (sameButSound_withApu hb)) fun _ => .ite (fun _ => .ok () (sameButSound_withApu hb)) fun _ =>
    .ite (fun _ => .ok () (sameButSound_withApu hb)) fun _ => .ite (fun _ => .ok () (sameButSound_withApu hb)) fun _ =>
    .ite (fun _ => .ok () (sameButSound_withApu hb)) fun _ => .ite (fun _ => sameRes_writeHdma5 h v) fun _ =>
    .ite (fun _ => .ok () (sameButSound_withApu hb)) fun _ => .ite (fun _ => .ok () (sameButSound_withApu hb)) fun _ =>
    .ite (fun _ => .ok () (sameButSound_withApu hb)) fun _ => .ite (fun _ => .ok () (sameButSound_withApu hb)) fun _ =>
    .ite (fun _ => .ok () (sameButSound_withApu hb)) fun _ => .ok () h

end

/-- A write to an APU register leaves wave RAM alone (62 R702). -/
theorem Apu.write_wave (a : Apu) (p v : Byte) : (a.write p v).wave = a.wave := by
  unfold Apu.write Apu.writeAt
  cases triggerChan p with
  | none => rfl
  | some n =>
    dsimp only
    split
    · cases n <;> rfl
    · rfl

section

variable {s t : State} (h : SameButSound s t)
include h

theorem sameRes_writeIo (p v : Byte) : SameRes (writeIo p v s) (writeIo p v t) := by
  obtain ⟨b, hb, rfl⟩ := exists_apu_of_sameButSound h
  have hreg : (s.apu.write p v).wave = (b.write p v).wave := by rw [Apu.write_wave, Apu.write_wave, hb]
  have hwave : s.apu.wave.set (p.toNat - 0x30) v = b.wave.set (p.toNat - 0x30) v := by rw [hb]
  exact .ite (fun _ => .ok () (sameButSound_withApu hb)) fun _ => .ite (fun _ => .ok () (sameButSound_withApu hb)) fun _ =>
    .ite (fun _ => .ok () (sameButSound_withApu hb)) fun _ => .ite (fun _ => .ok () (sameButSound_withApu hb)) fun _ =>
    .ite (fun _ => .ok () (sameButSound_withApu hb)) fun _ => .ite (fun _ => .ok () (sameButSound_withApu hb)) fun _ =>
    .ite (fun _ => .ok () ⟨rfl, hreg⟩) fun _ => .ite (fun _ => .ok () ⟨rfl, hwave⟩) fun _ =>
    .ite (fun _ => .ok () (sameButSound_withApu hb)) fun _ => .ite (fun _ => .ok () (sameButSound_withApu hb)) fun _ =>
    .ite (fun _ => .ok () (sameButSound_withApu hb)) fun _ => .ite (fun _ => .ok () (sameButSound_withApu hb)) fun _ =>
    .ite (fun _ => .ok () (sameButSound_withApu hb)) fun _ => .ite (fun _ => sameRes_oamDma v 160 0 h) fun _ =>
    .ite (fun _ => .ok () (sameButSound_withApu hb)) fun _ => .ite (fun _ => .ok () (sameButSound_withApu hb)) fun _ =>
    .ite (fun _ => .ok () (sameButSound_withApu hb)) fun _ => .ite (fun _ => .ok () (sameButSound_withApu hb)) fun _ =>
    .ite (fun _ => .ok () (sameButSound_withApu hb)) fun _ => sameRes_writeCgbIo h p v

theorem sameRes_busWrite (a : Word) (v : Byte) : SameRes (busWrite a v s) (busWrite a v t) := by
  obtain ⟨b, hb, rfl⟩ := exists_apu_of_sameButSound h
  exact .ite (fun _ => .ok () (sameButSound_withApu hb)) fun _ => .ite (fun _ => .ok () (sameButSound_withApu hb)) fun _ =>
    .ite (fun _ => sameRes_writeCart h a.toNat v) fun _ => .ite (fun _ => .ok () (sameButSound_withApu hb)) fun _ =>
    .ite (fun _ => .ok () (sameButSound_withApu hb)) fun _ => .ite (fun _ => .ok () (sameButSound_withApu hb)) fun _ =>
    .ite (fun _ => .ok () h) fun _ => .ite (fun _ => sameRes_writeIo h (loByte a) v) fun _ =>
    .ite (fun _ => .ok () (sameButSound_withApu hb)) fun _ => .ok () (sameButSound_withApu hb)

/-! ## The shared operations of the instructions -/

theorem cpu_eq_of_sameButSound : t.cpu = s.cpu := by
  obtain ⟨b, -, rfl⟩ := exists_apu_of_sameButSound h
  rfl

theorem sameButSound_setPc (v : Word) : SameButSound (setPc v s) (setPc v t) :=
  Soundless.same (f := setPc v) (fun _ _ => rfl) h

theorem sameButSound_setSp (v : Word) : SameButSound (setSp v s) (setSp v t) :=
  Soundless.same (f := setSp v) (fun _ _ => rfl) h

theorem sameRes_get8 (r : R8) : SameRes (get8 r s) (get8 r t) := by
  obtain ⟨b, -, rfl⟩ := exists_apu_of_sameButSound h
  unfold get8
  cases r.reg with
  | none => exact sameRes_busRead h (getHL s)
  | some q => cases q <;> exact .ok _ h

theorem sameRes_set8 (r : R8) (v : Byte) : SameRes (set8 r v s) (set8 r v t) := by
  obtain ⟨b, -, rfl⟩ := exists_apu_of_sameButSound h
  unfold set8
  cases r.reg with
  | none => exact sameRes_busWrite h (getHL s) v
  | some q => exact .ok () (Soundless.same (f := setReg q v) (fun _ _ => by cases q <;> rfl) h)

theorem sameRes_push16 (v : Word) : SameRes (push16 v s) (push16 v t) := by
  unfold push16
  rw [cpu_eq_of_sameButSound h]
  refine (sameRes_busWrite (sameButSound_setSp h _) _ _).bind fun _ u w h => ?_
  rw [cpu_eq_of_sameButSound h]
  exact sameRes_busWrite (sameButSound_setSp h _) _ _

theorem sameRes_pop16 : SameRes (pop16 s) (pop16 t) := by
  unfold pop16
  rw [cpu_eq_of_sameButSound h]
  refine (sameRes_busRead h _).bind fun lo u w h => ?_
  dsimp only
  rw [cpu_eq_of_sameButSound h]
  refine (sameRes_busRead (sameButSound_setSp h _) _).bind fun hi u w h => ?_
  rw [cpu_eq_of_sameButSound h]
  exact .ok _ (sameButSound_setSp h _)

theorem sameRes_callTo (a : Word) : SameRes (callTo a s) (callTo a t) := by
  unfold callTo
  rw [cpu_eq_of_sameButSound h]
  exact (sameRes_push16 h _).then fun _ _ _ h => sameButSound_setPc h a

theorem sameRes_returnFromCall : SameRes (returnFromCall s) (returnFromCall t) :=
  (sameRes_pop16 h).then fun v _ _ h => sameButSound_setPc h v

end

/-! ## The instructions, by the fields of the decoder (30 R171 to R177) -/

/-- What the instruction answers depends on sound in nothing but sound. -/
def Deaf (i : Instr) : Prop := ∀ s t : State, SameButSound s t → SameAnswerButSound (exec i s) (exec i t)

theorem Deaf.ite {c : Prop} [Decidable c] {i j : Instr} (hi : Deaf i) (hj : Deaf j) : Deaf (if c then i else j) := by
  by_cases h : c
  · rwa [if_pos h]
  · rwa [if_neg h]

/-- An instruction that changes the state without the bus. -/
theorem Deaf.of_soundless {i : Instr} {f : State → State} (hi : ∀ s, exec i s = .next (f s)) (hf : Soundless f) :
    Deaf i := fun s t h => by
  rw [hi s, hi t]
  exact hf.same h

/-- An instruction that is an operation with the bus, and then a change of the state. -/
theorem Deaf.of_then {α : Type} {i : Instr} {x : State → Res α} {f : α → State → State}
    (hi : ∀ s, exec i s = ((x s).then f).outcome) (hx : ∀ s t, SameButSound s t → SameRes (x s) (x t))
    (hf : ∀ a, Soundless (f a)) : Deaf i := fun s t h => by
  rw [hi s, hi t]
  exact ((hx s t h).then fun a _ _ h => (hf a).same h).outcome

/-- An instruction that reads a byte at an address of the CPU's, and then changes the state. -/
theorem Deaf.of_load {i : Instr} {a : State → Word} {f : Byte → State → State}
    (hi : ∀ s, exec i s = ((busRead (a s) s).then f).outcome) (ha : ∀ s b, a { s with apu := b } = a s)
    (hf : ∀ v, Soundless (f v)) : Deaf i := by
  refine .of_then hi (fun s t h => ?_) hf
  obtain ⟨b, -, rfl⟩ := exists_apu_of_sameButSound h
  rw [ha s b]
  exact sameRes_busRead h (a s)

/-- An instruction that writes a byte at an address, both the CPU's, and then changes the state. -/
theorem Deaf.of_store {i : Instr} {a : State → Word} {v : State → Byte} {f : Unit → State → State}
    (hi : ∀ s, exec i s = ((busWrite (a s) (v s) s).then f).outcome) (ha : ∀ s b, a { s with apu := b } = a s)
    (hv : ∀ s b, v { s with apu := b } = v s) (hf : Soundless (f ())) : Deaf i := by
  refine .of_then hi (fun s t h => ?_) fun _ => hf
  obtain ⟨b, -, rfl⟩ := exists_apu_of_sameButSound h
  rw [ha s b, hv s b]
  exact sameRes_busWrite h (a s) (v s)

theorem R8.eq_atHL_or_toR8 (r : R8) : r = .atHL ∨ ∃ q : Reg8, r = q.toR8 := by
  cases r with
  | atHL => exact .inl rfl
  | b => exact .inr ⟨.b, rfl⟩
  | c => exact .inr ⟨.c, rfl⟩
  | d => exact .inr ⟨.d, rfl⟩
  | e => exact .inr ⟨.e, rfl⟩
  | h => exact .inr ⟨.h, rfl⟩
  | l => exact .inr ⟨.l, rfl⟩
  | a => exact .inr ⟨.a, rfl⟩

/-! ### Loads and stores (40) -/

theorem deaf_ldInstr (p r : R8) : Deaf (ldInstr p r) := by
  obtain rfl | ⟨p, rfl⟩ := R8.eq_atHL_or_toR8 p <;> obtain rfl | ⟨q, rfl⟩ := R8.eq_atHL_or_toR8 r
  · exact .of_soundless (fun _ => rfl) fun _ _ => rfl
  · exact .of_store (exec_st_atHL q) (fun _ _ => rfl) (fun _ _ => by cases q <;> rfl) fun _ _ => rfl
  · exact .of_load (exec_ld_atHL p) (fun _ _ => rfl) fun _ _ _ => by cases p <;> rfl
  · exact .of_soundless (exec_ld p q) fun _ _ => by cases p <;> cases q <;> rfl

theorem deaf_ldImmInstr (p : R8) (n : Byte) : Deaf (ldImmInstr p n) := by
  obtain rfl | ⟨p, rfl⟩ := R8.eq_atHL_or_toR8 p
  · exact .of_store (fun _ => rfl) (fun _ _ => rfl) (fun _ _ => rfl) fun _ _ => rfl
  · exact .of_soundless (exec_ld_imm p n) fun _ _ => by cases p <;> rfl

theorem deaf_ldRrInstr (p : Rr) (n : Word) : Deaf (ldRrInstr p n) :=
  .of_soundless (exec_ld_rr p n) fun _ _ => by cases p <;> rfl

theorem deaf_storeSp (a : Word) : Deaf (.ld_atA16_sp a) := by
  refine .of_then (x := fun s => (busWrite a (loByte s.cpu.sp) s).bind fun _ s => busWrite (a + 1) (hiByte s.cpu.sp) s)
    (fun _ => rfl) (fun s t h => ?_) fun _ _ _ => rfl
  rw [cpu_eq_of_sameButSound h]
  refine (sameRes_busWrite h _ _).bind fun _ u w h => ?_
  rw [cpu_eq_of_sameButSound h]
  exact sameRes_busWrite h _ _

theorem deaf_pushInstr (p : Qq) : Deaf (pushInstr p) := by
  refine .of_then (exec_push p) (fun s t h => ?_) fun _ _ _ => rfl
  have hp : getQq p t = getQq p s := by
    obtain ⟨b, -, rfl⟩ := exists_apu_of_sameButSound h
    cases p <;> rfl
  rw [hp]
  exact sameRes_push16 h _

theorem deaf_popInstr (p : Qq) : Deaf (popInstr p) :=
  .of_then (exec_pop p) (fun _ _ h => sameRes_pop16 h) fun _ _ _ => by cases p <;> rfl

/-! ### Arithmetic and logic (41, 42) -/

theorem deaf_aluInstr (op : AluOp) (r : R8) : Deaf (aluInstr op r) := by
  obtain rfl | ⟨q, rfl⟩ := R8.eq_atHL_or_toR8 r
  · exact .of_load (exec_alu_atHL op) (fun _ _ => rfl) fun _ _ _ => by cases op <;> rfl
  · exact .of_soundless (exec_alu op q) fun _ _ => by cases op <;> cases q <;> rfl

theorem deaf_aluImmInstr (op : AluOp) (n : Byte) : Deaf (aluImmInstr op n) :=
  .of_soundless (exec_alu_imm op n) fun _ _ => by cases op <;> rfl

theorem deaf_of_modifyAtHL {i : Instr} {f : Byte → Flags → Byte × Flags} (hi : ∀ s, exec i s = modifyAtHL f s) :
    Deaf i := fun s t h => by
  obtain ⟨b, -, rfl⟩ := exists_apu_of_sameButSound h
  rw [hi, hi]
  refine ((sameRes_busRead h (getHL s)).bind fun v u w h => ?_).outcome
  have hset := Soundless.same (f := setFlags (f v u.cpu.f).2) (fun _ _ => rfl) h
  obtain ⟨b, -, rfl⟩ := exists_apu_of_sameButSound h
  exact (sameRes_busWrite hset (getHL u) _).then fun _ _ _ h =>
    Soundless.same (f := spend 12) (fun _ _ => rfl) h

theorem deaf_incInstr (r : R8) : Deaf (incInstr r) := by
  obtain rfl | ⟨q, rfl⟩ := R8.eq_atHL_or_toR8 r
  · exact deaf_of_modifyAtHL fun _ => rfl
  · exact .of_soundless (exec_inc q) fun _ _ => by cases q <;> rfl

theorem deaf_decInstr (r : R8) : Deaf (decInstr r) := by
  obtain rfl | ⟨q, rfl⟩ := R8.eq_atHL_or_toR8 r
  · exact deaf_of_modifyAtHL fun _ => rfl
  · exact .of_soundless (exec_dec q) fun _ _ => by cases q <;> rfl

theorem deaf_incRrInstr (p : Rr) : Deaf (incRrInstr p) :=
  .of_soundless (exec_incRr p) fun _ _ => by cases p <;> rfl

theorem deaf_decRrInstr (p : Rr) : Deaf (decRrInstr p) :=
  .of_soundless (exec_decRr p) fun _ _ => by cases p <;> rfl

theorem deaf_addHlInstr (p : Rr) : Deaf (addHlInstr p) :=
  .of_soundless (exec_addHl p) fun _ _ => by cases p <;> rfl

/-! ### Rotates, shifts and bits (43) -/

theorem deaf_of_modify {i : Instr} {r : R8} {f : Byte → Flags → Byte} {k : Byte → Flags → State → State}
    (hi : ∀ s, exec i s =
      ((get8 r s).bind fun v t => (set8 r (f v t.cpu.f) t).then fun _ u => k v t.cpu.f u).outcome)
    (hk : ∀ v g, Soundless (k v g)) : Deaf i := fun s t h => by
  rw [hi, hi]
  refine ((sameRes_get8 h r).bind fun v u w h => ?_).outcome
  rw [cpu_eq_of_sameButSound h]
  exact (sameRes_set8 h r _).then fun _ _ _ h => (hk _ _).same h

theorem deaf_rotInstr (op : RotOp) (r : R8) : Deaf (rotInstr op r) :=
  deaf_of_modify (f := fun v g => (rotApply op v g.c).1)
    (k := fun v g u => spend (cbCost r) (setFlags (cbRotFlags (rotApply op v g.c).1 (rotApply op v g.c).2) u))
    (exec_rot op r) fun _ _ _ _ => rfl

theorem deaf_bitInstr (b : BitVec 3) (r : R8) : Deaf (bitInstr b r) :=
  .of_then (exec_bit b r) (fun _ _ h => sameRes_get8 h r) fun _ _ _ => rfl

theorem deaf_resInstr (b : BitVec 3) (r : R8) : Deaf (resInstr b r) :=
  deaf_of_modify (f := fun v _ => res8 v b.toNat) (k := fun _ _ => spend (cbCost r)) (exec_res b r) fun _ _ _ _ => rfl

theorem deaf_setInstr (b : BitVec 3) (r : R8) : Deaf (setInstr b r) :=
  deaf_of_modify (f := fun v _ => set8Bit v b.toNat) (k := fun _ _ => spend (cbCost r)) (exec_set b r)
    fun _ _ _ _ => rfl

theorem deaf_decodeCb (o : Byte) : Deaf (decodeCb o) :=
  .ite (deaf_rotInstr _ _) <| .ite (deaf_bitInstr _ _) <| .ite (deaf_resInstr _ _) (deaf_setInstr _ _)

/-! ### Control transfer (44) -/

theorem Soundless.ite_cond {f g : State → State} (cc : Cond) (hf : Soundless f) (hg : Soundless g) :
    Soundless fun s => if condHolds cc s.cpu.f then f s else g s := fun s b => by
  dsimp only
  split
  · exact hf s b
  · exact hg s b

/-- A conditional instruction, by its condition. -/
theorem Deaf.of_cond {i : Instr} {x y : State → Host.Outcome State Fault Refusal} (cc : Cond)
    (hi : ∀ s, exec i s = if condHolds cc s.cpu.f then x s else y s)
    (hx : ∀ s t, SameButSound s t → SameAnswerButSound (x s) (x t))
    (hy : ∀ s t, SameButSound s t → SameAnswerButSound (y s) (y t)) : Deaf i := fun s t h => by
  rw [hi, hi, cpu_eq_of_sameButSound h]
  split
  · exact hx s t h
  · exact hy s t h

theorem sameAnswer_spend {s t : State} (h : SameButSound s t) (n : Nat) :
    SameAnswerButSound (.next (spend n s)) (.next (spend n t)) :=
  Soundless.same (f := spend n) (fun _ _ => rfl) h

theorem sameAnswer_then_spend {α : Type} {x y : Res α} (h : SameRes x y) (n : Nat) :
    SameAnswerButSound (x.then fun _ s => spend n s).outcome (y.then fun _ s => spend n s).outcome :=
  (h.then fun _ _ _ h => Soundless.same (f := spend n) (fun _ _ => rfl) h).outcome

theorem deaf_jpCcInstr (cc : Cond) (a : Word) : Deaf (jpCcInstr cc a) :=
  .of_soundless (exec_jp_cc cc a) <| .ite_cond cc (fun _ _ => rfl) fun _ _ => rfl

theorem deaf_jrCcInstr (cc : Cond) (e : Byte) : Deaf (jrCcInstr cc e) :=
  .of_soundless (exec_jr_cc cc e) <| .ite_cond cc (fun _ _ => rfl) fun _ _ => rfl

theorem deaf_callCcInstr (cc : Cond) (a : Word) : Deaf (callCcInstr cc a) :=
  .of_cond cc (exec_call_cc cc a) (fun _ _ h => sameAnswer_then_spend (sameRes_callTo h a) 24)
    fun _ _ h => sameAnswer_spend h 12

theorem deaf_retCcInstr (cc : Cond) : Deaf (retCcInstr cc) :=
  .of_cond cc (exec_ret_cc cc) (fun _ _ h => sameAnswer_then_spend (sameRes_returnFromCall h) 20)
    fun _ _ h => sameAnswer_spend h 8

theorem deaf_of_callAlways {i : Instr} {a : Word} {n : Nat} (hi : ∀ s, exec i s = callAlways a n s) : Deaf i :=
  .of_then hi (fun _ _ h => sameRes_callTo h a) fun _ _ _ => rfl

theorem deaf_ret : Deaf .ret := .of_then (fun _ => rfl) (fun _ _ h => sameRes_returnFromCall h) fun _ _ _ => rfl

theorem deaf_reti : Deaf .reti :=
  .of_then (x := returnFromInterrupt) (fun _ => rfl)
    (fun _ _ h => (sameRes_returnFromCall h).then fun _ _ _ h =>
      Soundless.same (f := fun s => { s with cpu.ime := true }) (fun _ _ => rfl) h) fun _ _ _ => rfl

/-! ### System instructions (45) and the tables -/

theorem deaf_stop (x : Byte) : Deaf (.stop x) := fun s t h => by
  obtain ⟨b, hb, rfl⟩ := exists_apu_of_sameButSound h
  show SameAnswerButSound (execStop x s) (execStop x { s with apu := b })
  unfold execStop
  dsimp only
  split
  · exact sameButSound_withApu hb
  · exact sameButSound_withApu hb

theorem deaf_of_illegal {i : Instr} {o : Byte} (hi : ∀ s, exec i s = illegal o s) : Deaf i :=
  .of_soundless hi fun _ _ => rfl

theorem deaf_decodeX0 (o lo hi : Byte) : Deaf (decodeX0 o lo hi) := by
  unfold decodeX0
  refine .ite (.ite ?nop <| .ite (deaf_storeSp _) <| .ite (deaf_stop lo) <| .ite ?jr (deaf_jrCcInstr _ lo)) <|
    .ite (.ite (deaf_addHlInstr _) (deaf_ldRrInstr _ _)) <|
    .ite (.ite ?atBC <| .ite ?aAtBC <| .ite ?atDE <| .ite ?aAtDE <| .ite ?atHLI <| .ite ?aAtHLI <| .ite ?atHLD ?aAtHLD) <|
    .ite (.ite (deaf_decRrInstr _) (deaf_incRrInstr _)) <| .ite (deaf_incInstr _) <| .ite (deaf_decInstr _) <|
    .ite (deaf_ldImmInstr _ lo) <| .ite ?rlca <| .ite ?rrca <| .ite ?rla <| .ite ?rra <| .ite ?daa <| .ite ?cpl <|
    .ite ?scf ?ccf
  case atBC | atDE | atHLI | atHLD => exact .of_store (fun _ => rfl) (fun _ _ => rfl) (fun _ _ => rfl) fun _ _ => rfl
  case aAtBC | aAtDE | aAtHLI | aAtHLD => exact .of_load (fun _ => rfl) (fun _ _ => rfl) fun _ _ _ => rfl
  all_goals exact .of_soundless (fun _ => rfl) fun _ _ => rfl

theorem deaf_decodeX3 (o lo hi : Byte) : Deaf (decodeX3 o lo hi) := by
  unfold decodeX3
  refine .ite (.ite ?atA8 <| .ite ?addSp <| .ite ?aAtA8 <| .ite ?ldHlSp (deaf_retCcInstr _)) <|
    .ite (.ite deaf_ret <| .ite deaf_reti <| .ite ?jpHl <| .ite ?ldSpHl (deaf_popInstr _)) <|
    .ite (.ite ?atC <| .ite ?atA16 <| .ite ?aAtC <| .ite ?aAtA16 (deaf_jpCcInstr _ _)) <|
    .ite (.ite ?jp <| .ite (deaf_decodeCb lo) <| .ite ?d3 <| .ite ?db <| .ite ?e3 <| .ite ?eb <| .ite ?di ?ei) <|
    .ite (.ite ?e4 <| .ite ?ec <| .ite ?f4 <| .ite ?fc (deaf_callCcInstr _ _)) <|
    .ite (.ite (deaf_of_callAlways fun _ => rfl) <| .ite ?dd <| .ite ?ed <| .ite ?fd (deaf_pushInstr _)) <|
    .ite (deaf_aluImmInstr _ lo) (deaf_of_callAlways (exec_rst _))
  case atA8 | atC | atA16 => exact .of_store (fun _ => rfl) (fun _ _ => rfl) (fun _ _ => rfl) fun _ _ => rfl
  case aAtA8 | aAtC | aAtA16 => exact .of_load (fun _ => rfl) (fun _ _ => rfl) fun _ _ _ => rfl
  case addSp | ldHlSp | jpHl | ldSpHl | jp | di | ei => exact .of_soundless (fun _ => rfl) fun _ _ => rfl
  all_goals exact deaf_of_illegal fun _ => rfl

/-- Every instruction the decoder gives (30 R178). -/
theorem deaf_decodeBytes (o lo hi : Byte) : Deaf (decodeBytes o lo hi) :=
  .ite (deaf_decodeX0 o lo hi) <| .ite (deaf_ldInstr _ _) <| .ite (deaf_aluInstr _ _) (deaf_decodeX3 o lo hi)

/-! ## The parts of a step around the instruction (60 R501) -/

theorem soundless_timaTicks (n : Nat) : Soundless (timaTicks n) := by
  induction n with
  | zero => exact fun _ _ => rfl
  | succ n ih =>
    refine ih.comp fun s b => ?_
    unfold timaTick
    dsimp only
    split <;> rfl

theorem soundless_timaStep (c : Nat) : Soundless (timaStep c) := fun s b => by
  unfold timaStep
  dsimp only
  split
  · exact soundless_timaTicks _ { s with timer.timerCounter := (s.timer.timerCounter + c) % timerPeriod s.timer.tac } b
  · rfl

theorem soundless_timerStep (c : Nat) : Soundless (timerStep c) :=
  (soundless_timaStep c).comp (g := fun s => { s with timer := divStep c s.timer }) fun _ _ => rfl

theorem soundless_advanceDot (spd c : Nat) : Soundless (advanceDot spd c) := by
  have hline : Soundless nextLine := fun s b => by
    unfold nextLine
    dsimp only
    split <;> split <;> rfl
  have hlines : ∀ n, Soundless (nextLines n) := fun n => by
    induction n with
    | zero => exact fun _ _ => rfl
    | succ n ih => exact ih.comp hline
  exact fun s b => hlines _ { s with ppu.dot := (s.ppu.dot + c) % (Config.lineCycles * spd) } b

theorem soundless_compareLyc : Soundless compareLyc := fun s b => by
  unfold compareLyc
  dsimp only
  split <;> rfl

/-- Entering mode 3 draws the line (61 R610). -/
theorem soundless_drawAt (m : BitVec 2) :
    Soundless fun s => if m = 3 then { s with ppu := renderLine s.cgbMode s.ppu.ly.toNat s.ppu } else s := fun s b => by
  dsimp only
  split <;> rfl

/-- The STAT request, and then the mode (61 R603). -/
theorem soundless_setMode (m : BitVec 2) : Soundless fun s =>
    { (if statSelects s.ppu m then request 1 s else s) with
      ppu := { (if statSelects s.ppu m then request 1 s else s).ppu with mode := m } } := fun s b => by
  dsimp only
  split <;> rfl

section

variable {s t : State} (h : SameButSound s t)
include h

theorem sameRes_hdmaHblankBlock : SameRes (hdmaHblankBlock s) (hdmaHblankBlock t) := by
  have hset : Soundless fun s => { s with hdma := { s.hdma with
      remaining := s.hdma.remaining - 1, active := decide (s.hdma.remaining - 1 ≠ 0) } } := fun _ _ => rfl
  obtain ⟨b, -, rfl⟩ := exists_apu_of_sameButSound h
  exact .ite (fun _ => (sameRes_copyBytes 16 h).then fun _ _ _ h => hset.same h) fun _ => .ok () h

theorem sameRes_enterMode (m : BitVec 2) : SameRes (enterMode m s) (enterMode m t) := by
  have hd := (soundless_drawAt m).same h
  exact (SameRes.ite (fun _ => sameRes_hdmaHblankBlock hd) fun _ => .ok () hd).then fun _ _ _ h =>
    (soundless_setMode m).same h

theorem sameRes_ppuStep (spd c : Nat) : SameRes (ppuStep spd c s) (ppuStep spd c t) := by
  obtain ⟨b, hb, rfl⟩ := exists_apu_of_sameButSound h
  refine .ite (fun _ => ?_) fun _ => .ok () (sameButSound_withApu hb)
  have hadv := (soundless_advanceDot spd c).same h
  rw [soundless_advanceDot spd c s b] at hadv ⊢
  generalize advanceDot spd c s = u at hadv ⊢
  exact (SameRes.ite (fun _ => sameRes_enterMode hadv _) fun _ => .ok () hadv).then fun _ _ _ h =>
    soundless_compareLyc.same h

theorem sameRes_interruptService : SameRes (interruptService s) (interruptService t) := by
  have htake : SameRes (takeInterrupt (lowestBit (pending s)) s) (takeInterrupt (lowestBit (pending s)) t) :=
    sameRes_callTo (Soundless.same (f := acceptInterrupt _) (fun _ _ => rfl) h) _
  obtain ⟨b, hb, rfl⟩ := exists_apu_of_sameButSound h
  exact .ite (fun _ => .ok _ (sameButSound_withApu hb)) fun _ => .ite (fun _ => .ok _ h) fun _ =>
    .ite (fun _ => htake.bind fun _ _ _ h => .ok _ h) fun _ =>
    .ite (fun _ => .ok _ (sameButSound_withApu hb)) fun _ => .ok _ h

theorem sameRes_finishStep (spd : Nat) : SameRes (finishStep spd s) (finishStep spd t) := by
  have hcost : t.cost = s.cost := by
    obtain ⟨b, -, rfl⟩ := exists_apu_of_sameButSound h
    rfl
  unfold finishStep
  rw [hcost]
  refine (sameRes_ppuStep h spd s.cost).bind fun _ u w h => ?_
  refine (sameRes_interruptService ((soundless_timerStep s.cost).same h)).then fun x _ _ h => ?_
  exact Soundless.same (f := fun u => { u with charge := s.cost + x }) (fun _ _ => rfl) h

theorem sameRes_fetch8 : SameRes (fetch8 s) (fetch8 t) := by
  unfold fetch8
  rw [cpu_eq_of_sameButSound h]
  refine (sameRes_busRead h _).bind fun v u w h => .ok v ?_
  rw [cpu_eq_of_sameButSound h]
  exact sameButSound_setPc h _

/-- The two fetches give the same instruction, one of the decoder's (30 R178). -/
theorem sameRes_fetchInstr : SameRes (fetchInstr s) (fetchInstr t) := by
  refine (sameRes_fetch8 h).bind fun o u w h => .ite (fun _ => .ok _ h) fun _ => ?_
  exact (sameRes_fetch8 h).bind fun lo u w h => .ite (fun _ => .ok _ h) fun _ =>
    (sameRes_fetch8 h).bind fun hi u w h => .ok _ h

end

theorem deaf_of_fetchInstr {i : Instr} {s u : State} (h : fetchInstr s = .ok i u) : Deaf i := by
  obtain ⟨o, v, -, h⟩ := Res.bind_eq_ok.mp h
  split at h
  · cases h; exact deaf_decodeBytes o 0 0
  obtain ⟨lo, w, -, h⟩ := Res.bind_eq_ok.mp h
  split at h
  · cases h; exact deaf_decodeBytes o lo 0
  obtain ⟨hi, x, -, h⟩ := Res.bind_eq_ok.mp h
  cases h
  exact deaf_decodeBytes o lo hi

theorem sameAnswer_afterExec (spd : Nat) {s t : State} (h : SameButSound s t) :
    SameAnswerButSound (afterExec spd (.next s)) (afterExec spd (.next t)) := by
  have hfinish := sameRes_finishStep h spd
  obtain ⟨b, -, rfl⟩ := exists_apu_of_sameButSound h
  unfold afterExec
  dsimp only
  split
  · exact h
  · exact hfinish.outcome

/-- A step tests the same fault and halt, fetches the same instruction and finishes the same way. -/
theorem sameAnswer_step {s t : State} (h : SameButSound s t) : SameAnswerButSound (step s) (step t) := by
  have hbegin := Soundless.same (f := beginStep) (fun _ _ => rfl) h
  have hidle := Soundless.same (f := spend Config.haltStepCost) (fun _ _ => rfl) hbegin
  have hfetch := sameRes_fetchInstr hbegin
  obtain ⟨b, -, rfl⟩ := exists_apu_of_sameButSound h
  unfold step runStep
  dsimp only
  split
  · rfl
  split
  · exact (sameRes_finishStep hidle _).outcome
  obtain ⟨i, u, w, hu, hw, h⟩ | ⟨r, u, w, hu, hw, h⟩ := hfetch.cases
  · rw [hu, hw]
    obtain ⟨u', hu'⟩ := exec_next i u
    obtain ⟨w', hw'⟩ := exec_next i w
    have hexec := deaf_of_fetchInstr hu u w h
    dsimp only
    rw [hu', hw'] at hexec ⊢
    exact sameAnswer_afterExec _ hexec
  · rw [hu, hw]
    exact Soundless.same (f := recordFault r) (fun _ _ => rfl) h

/-! ## The sampler (62 R720) -/

theorem Apu.setChan_wave (a : Apu) (n : Chan) (c : Channel) : (a.setChan n c).wave = a.wave := by cases n <;> rfl

theorem Apu.advance_wave (a : Apu) (rate : Nat) (n : Chan) : (a.advance rate n).wave = a.wave := by
  unfold Apu.advance
  dsimp only
  split
  · rfl
  · rw [Apu.setChan_wave]
    split <;> rfl

theorem Apu.afterSample_wave (a : Apu) (rate : Nat) : (a.afterSample rate).wave = a.wave := by
  simp only [Apu.afterSample, Apu.advance_wave]

theorem pull_wave (k : Nat) (s : State) : (pull k s).2.apu.wave = s.apu.wave := by
  induction k generalizing s with
  | zero => rfl
  | succ k ih =>
    unfold pull sample
    cases s.apu.soundEnabled with
    | false => rfl
    | true => exact (ih _).trans (Apu.afterSample_wave s.apu _)

/-- Settles O15: every part of a step takes states that differ only in sound to such states, and a pull changes the APU
alone, but for wave RAM. -/
theorem soundIsInvisible : Obligations.SoundIsInvisible :=
  ⟨fun _ _ h => sameAnswer_step h, fun k s => ⟨(pull_eq k s).symm, (pull_wave k s).symm⟩⟩

end Sys2Proof.Machine
end

section
/-! PROOF. The sampler (62 R703 to R720): each part of a sample against the words of its rule, what a sample does to a
channel, and the samples of a pull in order. -/

open Sys2Proof.Claims

namespace Sys2Proof.Machine

/-! ## The parts of a sample (62 R706 to R711) -/

/-- 62 R720: the new phase is the fractional part. -/
theorem Channel.advancePhase_eq (c : Channel) (rate : Nat) :
    c.advancePhase rate = { c with phase := Int.fract (c.phase + c.freqHz / (rate : Rat)) } := rfl

theorem Channel.wholePeriods_eq (c : Channel) (rate : Nat) :
    c.wholePeriods rate = ⌊c.phase + c.freqHz / (rate : Rat)⌋.toNat := rfl

theorem lfsrClocks_eq_iterate (narrow : Bool) (k : Nat) (x : BitVec 15) :
    lfsrClocks narrow k x = (lfsrClock narrow)^[k] x := by
  induction k generalizing x with
  | zero => rfl
  | succ k ih => rw [lfsrClocks, ih, Function.iterate_succ_apply]

theorem Channel.advanceDuration_eq_spec (c : Channel) : c.advanceDuration = durationSpec c := by
  unfold Channel.advanceDuration durationSpec
  cases c.duration with
  | none => rfl
  | some d =>
    have hd : d - 1 ≠ 0 ↔ 1 < d := by omega
    simp only [hd]

theorem Channel.advanceEnvelope_eq_spec (c : Channel) : c.advanceEnvelope = envelopeSpec c := by
  have hamp : (if c.envDir then c.amplitude + 1 else c.amplitude - 1) =
      BitVec.ofInt 4 (c.amplitude.toNat + if c.envDir then 1 else -1) := by
    generalize c.amplitude = a
    cases c.envDir <;> revert a <;> decide
  unfold Channel.advanceEnvelope envelopeSpec
  by_cases h : c.envSamplesPerStep = 0 ∨ c.envTarget = 0
  · rw [if_pos h, if_neg (by omega)]
  · rw [if_neg h, if_pos (by omega), ite_not, hamp]

/-- 62 R708: the new frequency register, which never goes below 0. -/
theorem sweep_new_eq (shadow steps : Nat) (down : Bool) :
    ((if down then shadow - shadow >>> steps else shadow + shadow >>> steps : Nat) : Int) =
      if down then (shadow : Int) - ((shadow / 2 ^ steps : Nat) : Int) else shadow + ((shadow / 2 ^ steps : Nat) : Int) := by
  have hle := Nat.div_le_self shadow (2 ^ steps)
  rw [Nat.shiftRight_eq_div_pow]
  split <;> omega

theorem squareHz_of_le {n : Nat} (h : n ≤ 2047) : squareHz (BitVec.ofNat 11 n) = 131072 / (2048 - (n : Rat)) := by
  rw [squareHz, BitVec.toNat_ofNat, Nat.mod_eq_of_lt (by omega), Nat.cast_sub (by omega)]
  rfl

theorem Channel.advanceSweep_eq_spec (c : Channel) : c.advanceSweep = sweepSpec c := by
  unfold Channel.advanceSweep sweepSpec
  dsimp only
  rw [← sweep_new_eq]
  generalize (if c.sweepDir then c.shadow.toNat - c.shadow.toNat >>> c.sweepSteps
    else c.shadow.toNat + c.shadow.toNat >>> c.sweepSteps) = new
  by_cases h : c.sweepLen = 0 ∨ c.sweepSteps = 0
  · rw [if_pos h, if_neg (by omega)]
  rw [if_neg h, if_pos (by omega), ite_not]
  by_cases hnew : new ≤ 2047
  · rw [if_neg (by omega : ¬new > 2047), if_neg (by omega : ¬2047 < (new : Int)), squareHz_of_le hnew,
      BitVec.ofInt_natCast, Int.cast_natCast]
  · rw [if_pos (by omega : new > 2047), if_pos (by omega : 2047 < (new : Int))]

/-! ## Channels by number -/

theorem Apu.chan_setChan_same (a : Apu) (n : Chan) (c : Channel) : (a.setChan n c).chan n = c := by cases n <;> rfl

theorem Apu.chan_setChan_ne (a : Apu) {n m : Chan} (c : Channel) (h : m ≠ n) : (a.setChan n c).chan m = a.chan m := by
  cases n <;> cases m
  case one.one | two.two | three.three | four.four => exact absurd rfl h
  all_goals rfl

theorem Chan.hasSweep_eq (n : Chan) : n.hasSweep = decide (n = .one ∨ n = .two) := by cases n <;> rfl

/-! ## What a sample does to a channel (62 R720) -/

theorem Apu.advance_of_off {a : Apu} (rate : Nat) {n : Chan} (h : (a.chan n).on = false) : a.advance rate n = a :=
  if_pos h

theorem Apu.advance_of_on {a : Apu} (rate : Nat) {n : Chan} (h : (a.chan n).on = true) :
    a.advance rate n = { a.setChan n (sampledSpec rate (decide (n = .one ∨ n = .two)) (a.chan n)) with
      lfsr := if n = .four then
          (lfsrClock a.narrow)^[⌊(a.chan n).phase + (a.chan n).freqHz / (rate : Rat)⌋.toNat] a.lfsr
        else a.lfsr } := by
  have hc : ∀ c : Channel, (if n.hasSweep then
      ((c.advancePhase rate).advanceDuration).advanceEnvelope.advanceSweep
      else ((c.advancePhase rate).advanceDuration).advanceEnvelope) =
        sampledSpec rate (decide (n = .one ∨ n = .two)) c := fun c => by
    rw [Channel.advanceSweep_eq_spec, Channel.advanceEnvelope_eq_spec, Channel.advanceDuration_eq_spec,
      Channel.advancePhase_eq, Chan.hasSweep_eq]
    rfl
  unfold Apu.advance
  dsimp only
  rw [if_neg (by simp [h]), hc, lfsrClocks_eq_iterate, Channel.wholePeriods_eq]
  cases n <;> rfl

@[simp] theorem durationSpec_phase (c : Channel) : (durationSpec c).phase = c.phase := by
  unfold durationSpec
  split <;> rfl
@[simp] theorem durationSpec_kind (c : Channel) : (durationSpec c).kind = c.kind := by
  unfold durationSpec
  split <;> rfl

theorem envelopeSpec_eq (c : Channel) : envelopeSpec c = { c with
    envStep := (envelopeSpec c).envStep, envTarget := (envelopeSpec c).envTarget
    amplitude := (envelopeSpec c).amplitude } := by
  unfold envelopeSpec
  split
  · rfl
  · split <;> rfl

@[simp] theorem envelopeSpec_phase (c : Channel) : (envelopeSpec c).phase = c.phase := by rw [envelopeSpec_eq]
@[simp] theorem envelopeSpec_kind (c : Channel) : (envelopeSpec c).kind = c.kind := by rw [envelopeSpec_eq]
@[simp] theorem envelopeSpec_on (c : Channel) : (envelopeSpec c).on = c.on := by rw [envelopeSpec_eq]

/-- The four ways a sweep can end (62 R708). -/
theorem sweepSpec_cases (c : Channel) : sweepSpec c = c ∨ sweepSpec c = { c with sweepCount := c.sweepCount + 1 } ∨
    sweepSpec c = { c with sweepCount := 0, on := false } ∨
    ∃ r f, sweepSpec c = { c with sweepCount := 0, shadow := r, freqHz := f } := by
  unfold sweepSpec
  dsimp only
  generalize (if c.sweepDir then _ else _ : Int) = new
  split
  · exact .inl rfl
  split
  · exact .inr (.inl rfl)
  split
  · exact .inr (.inr (.inl rfl))
  · exact .inr (.inr (.inr ⟨_, _, rfl⟩))

@[simp] theorem sweepSpec_phase (c : Channel) : (sweepSpec c).phase = c.phase := by
  obtain h | h | h | ⟨r, f, h⟩ := sweepSpec_cases c <;> rw [h]

@[simp] theorem sweepSpec_kind (c : Channel) : (sweepSpec c).kind = c.kind := by
  obtain h | h | h | ⟨r, f, h⟩ := sweepSpec_cases c <;> rw [h]

/-- A sweep never turns a channel on. -/
theorem sweepSpec_off {c : Channel} (hc : c.on = false) : (sweepSpec c).on = false := by
  obtain h | h | h | ⟨r, f, h⟩ := sweepSpec_cases c <;> rw [h]
  all_goals exact hc

theorem sampledSpec_phase (rate : Nat) (sweeps : Bool) (c : Channel) :
    (sampledSpec rate sweeps c).phase = Int.fract (c.phase + c.freqHz / (rate : Rat)) := by
  cases sweeps <;> simp [sampledSpec]

theorem sampledSpec_kind (rate : Nat) (sweeps : Bool) (c : Channel) : (sampledSpec rate sweeps c).kind = c.kind := by
  cases sweeps <;> simp [sampledSpec]

/-- 62 R706: the last sample of a length turns the channel off. -/
theorem sampledSpec_off_of_last (rate : Nat) (sweeps : Bool) {c : Channel} (h : c.duration = some 1) :
    (sampledSpec rate sweeps c).on = false := by
  have hd : (envelopeSpec (durationSpec { c with phase := Int.fract (c.phase + c.freqHz / (rate : Rat)) })).on = false := by
    rw [envelopeSpec_on, durationSpec]
    dsimp only
    rw [h]
    exact Bool.and_false _
  cases sweeps with
  | false => exact hd
  | true => exact sweepSpec_off hd

section

variable {a : Apu} {rate : Nat} {n : Chan}

theorem Apu.advance_chan_same (h : (a.chan n).on = true) :
    (a.advance rate n).chan n = sampledSpec rate (decide (n = .one ∨ n = .two)) (a.chan n) := by
  rw [Apu.advance_of_on rate h]
  exact Apu.chan_setChan_same a n _

/-- A sample of a channel moves that channel, the LFSR with channel 4, and nothing else of the APU. -/
theorem Apu.advance_eq (a : Apu) (rate : Nat) (n : Chan) :
    a.advance rate n = { a.setChan n ((a.advance rate n).chan n) with lfsr := (a.advance rate n).lfsr } := by
  cases h : (a.chan n).on with
  | false => rw [Apu.advance_of_off rate h]; cases n <;> rfl
  | true => rw [Apu.advance_of_on rate h]; cases n <;> rfl

theorem Apu.advance_chan_ne {m : Chan} (h : m ≠ n) : (a.advance rate n).chan m = a.chan m := by
  rw [Apu.advance_eq]
  exact Apu.chan_setChan_ne a _ h

theorem Apu.advance_regs : (a.advance rate n).regs = a.regs := by
  rw [Apu.advance_eq]
  cases n <;> rfl

theorem Apu.advance_soundEnabled : (a.advance rate n).soundEnabled = a.soundEnabled := by
  rw [Apu.advance_eq]
  cases n <;> rfl

theorem Apu.advance_kind (m : Chan) : ((a.advance rate n).chan m).kind = (a.chan m).kind := by
  by_cases hm : m = n
  · subst hm
    cases h : (a.chan m).on with
    | false => rw [Apu.advance_of_off rate h]
    | true => rw [Apu.advance_chan_same h, sampledSpec_kind]
  · rw [Apu.advance_chan_ne hm]

end

/-! ## The value of a channel (62 R710) -/

section

variable {a : Apu} {n : Chan}

theorem dutyOf_eq_getD (d : BitVec 2) : dutyOf d = [(1 / 8 : Rat), 1 / 4, 1 / 2, 3 / 4].getD d.toNat 0 := by
  obtain rfl | rfl | rfl | rfl : d = 0 ∨ d = 1 ∨ d = 2 ∨ d = 3 := by
    revert d
    decide
  all_goals rfl

theorem waveShift_eq_getD (v : Byte) : waveShift (v.extractLsb' 5 2) = [4, 0, 1, 2].getD (v.toNat / 32 % 4) 0 := by
  revert v
  decide

theorem Apu.waveform_of_off (h : (a.chan n).on = false) : a.waveform n = 0 := if_pos h

theorem Apu.waveform_of_square (h : (a.chan n).on = true) (hk : (a.chan n).kind = .square) :
    a.waveform n = if (a.chan n).phase < dutyOf (a.chan n).duty then (a.chan n).amplitude.toNat else 0 := by
  unfold Apu.waveform
  dsimp only
  rw [if_neg (by simp [h]), hk]

theorem Apu.waveform_of_noise (h : (a.chan n).on = true) (hk : (a.chan n).kind = .noise) :
    a.waveform n = if a.lfsr.getLsbD 0 then 0 else (a.chan n).amplitude.toNat := by
  unfold Apu.waveform
  dsimp only
  rw [if_neg (by simp [h]), hk]

theorem Apu.waveform_of_wave (h : (a.chan n).on = true) (hk : (a.chan n).kind = .wave) :
    a.waveform n = if (a.regs.get 0x1A).getLsbD 7 then
      a.waveSample ⌊(a.chan n).phase * 32⌋.toNat / 2 ^ [4, 0, 1, 2].getD ((a.regs.get 0x1C).toNat / 32 % 4) 0 else 0 := by
  unfold Apu.waveform
  dsimp only
  rw [if_neg (by simp [h]), hk, ← waveShift_eq_getD, ← Nat.shiftRight_eq_div_pow]
  rfl

theorem Apu.waveSample_le (a : Apu) (k : Nat) : a.waveSample k ≤ 15 := by
  have := (a.wave.get (k / 2)).isLt
  unfold Apu.waveSample
  dsimp only
  split <;> omega

theorem Apu.waveform_le (a : Apu) (n : Chan) : a.waveform n ≤ 15 := by
  have hamp : (a.chan n).amplitude.toNat ≤ 15 := by have := (a.chan n).amplitude.isLt; omega
  cases h : (a.chan n).on with
  | false => rw [Apu.waveform_of_off h]; exact Nat.zero_le _
  | true =>
    cases hk : (a.chan n).kind with
    | square => rw [Apu.waveform_of_square h hk]; split <;> omega
    | noise => rw [Apu.waveform_of_noise h hk]; split <;> omega
    | wave =>
      rw [Apu.waveform_of_wave h hk]
      split
      · exact (Nat.div_le_self _ _).trans (a.waveSample_le _)
      · exact Nat.zero_le _

end

/-! ## Samples and pulls (62 R720) -/

theorem Apu.routed_eq_spec (a : Apu) (left : Bool) : a.routed left = routedSpec a (if left then 4 else 0) := by
  unfold Apu.routed routedSpec
  refine congrArg (List.map a.waveform) (List.filter_congr fun n _ => ?_)
  cases left <;> cases n <;> rfl

theorem Apu.output_of_on {a : Apu} (h : (a.regs.get 0x26).getLsbD 7 = true) : a.output =
    (Config.mix (routedSpec a 4) ((a.regs.get 0x24).extractLsb' 4 3),
      Config.mix (routedSpec a 0) ((a.regs.get 0x24).extractLsb' 0 3)) := by
  refine (if_pos h).trans ?_
  rw [Apu.routed_eq_spec, Apu.routed_eq_spec]
  rfl

theorem Apu.output_of_off {a : Apu} (h : (a.regs.get 0x26).getLsbD 7 = false) : a.output = (0, 0) :=
  if_neg (Bool.eq_false_iff.mp h)

theorem sampledApu_soundEnabled (rate : Nat) (a : Apu) : (sampledApu rate a).soundEnabled = a.soundEnabled := by
  simp only [sampledApu, Apu.advance_soundEnabled]

theorem sampledApu_regs (rate : Nat) (a : Apu) : (sampledApu rate a).regs = a.regs := by
  simp only [sampledApu, Apu.advance_regs]

theorem sampledApu_wave (rate : Nat) (a : Apu) : (sampledApu rate a).wave = a.wave :=
  Apu.afterSample_wave a rate

theorem sampledApu_kind (rate : Nat) (a : Apu) (m : Chan) : ((sampledApu rate a).chan m).kind = (a.chan m).kind := by
  simp only [sampledApu, Apu.advance_kind]

theorem sample_of_enabled {s : State} (h : s.apu.soundEnabled = true) :
    sample s = some (s.apu.output, { s with apu := sampledApu Config.sampleRate s.apu }) := if_pos h

theorem sample_of_disabled {s : State} (h : s.apu.soundEnabled = false) : sample s = none :=
  if_neg (Bool.eq_false_iff.mp h)

theorem pull_of_disabled {s : State} (k : Nat) (h : s.apu.soundEnabled = false) : pull k s = ([], s) := by
  cases k with
  | zero => rfl
  | succ k => rw [pull, sample_of_disabled h]

theorem pull_succ_of_enabled {s : State} (k : Nat) (h : s.apu.soundEnabled = true) :
    pull (k + 1) s = (s.apu.output :: (pull k { s with apu := sampledApu Config.sampleRate s.apu }).1,
      (pull k { s with apu := sampledApu Config.sampleRate s.apu }).2) := by
  rw [pull, sample_of_enabled h]

/-- A pull of k is the outputs along the iterated sample, and the state after them. -/
theorem pull_of_enabled (k : Nat) {s : State} (h : s.apu.soundEnabled = true) :
    pull k s = ((List.range k).map fun i => ((sampledApu Config.sampleRate)^[i] s.apu).output,
      { s with apu := (sampledApu Config.sampleRate)^[k] s.apu }) := by
  induction k generalizing s with
  | zero => rfl
  | succ k ih =>
    rw [pull_succ_of_enabled k h, ih ((sampledApu_soundEnabled _ _).trans h), List.range_succ_eq_map, List.map_cons,
      List.map_map]
    rfl

/-- What the outputs do not depend on: a relation of APUs that a sample keeps, with the same output and sampler, makes
pulls give the same samples, and is kept by them. -/
theorem pull_congr {R : Apu → Apu → Prop} (hout : ∀ a b, R a b → a.output = b.output)
    (hon : ∀ a b, R a b → a.soundEnabled = b.soundEnabled)
    (hstep : ∀ a b, R a b → R (sampledApu Config.sampleRate a) (sampledApu Config.sampleRate b)) (k : Nat) {s : State}
    {b : Apu} (h : R s.apu b) :
    (pull k { s with apu := b }).1 = (pull k s).1 ∧ R (pull k s).2.apu (pull k { s with apu := b }).2.apu := by
  induction k generalizing s b with
  | zero => exact ⟨rfl, h⟩
  | succ k ih =>
    cases hs : s.apu.soundEnabled with
    | false =>
      rw [pull_of_disabled _ hs, pull_of_disabled (s := { s with apu := b }) _ ((hon _ _ h).symm.trans hs)]
      exact ⟨rfl, h⟩
    | true =>
      rw [pull_succ_of_enabled k hs, pull_succ_of_enabled (s := { s with apu := b }) k ((hon _ _ h).symm.trans hs)]
      obtain ⟨h1, h2⟩ := ih (s := { s with apu := sampledApu Config.sampleRate s.apu }) (hstep _ _ h)
      exact ⟨congrArg₂ List.cons (hout _ _ h).symm h1, h2⟩

/-- The output reads NR50 to NR52 and the values of the channels. -/
theorem Apu.output_congr {a b : Apu} (h24 : a.regs.get 0x24 = b.regs.get 0x24) (h25 : a.regs.get 0x25 = b.regs.get 0x25)
    (h26 : a.regs.get 0x26 = b.regs.get 0x26) (hw : ∀ n, a.waveform n = b.waveform n) : a.output = b.output := by
  unfold Apu.output Apu.routed Apu.nr50 Apu.nr51 Apu.nr52
  rw [h24, h25, h26, funext hw]

/-! ## The LFSR while channel 4 is off (62 R711) -/

/-- The other APU has another LFSR, of noise channels there is only channel 4, and that is off. -/
structure SameButLfsr (x : BitVec 15) (a b : Apu) : Prop where
  eq : b = { a with lfsr := x }
  kinds : ∀ n, (a.chan n).kind = .noise → n = .four
  off : (a.chan .four).on = false

theorem Apu.chan_withLfsr (a : Apu) (x : BitVec 15) (n : Chan) : Apu.chan { a with lfsr := x } n = a.chan n := by
  cases n <;> rfl

theorem Apu.advance_withLfsr {a : Apu} (rate : Nat) {n : Chan} (x : BitVec 15)
    (h : n = .four → (a.chan n).on = false) :
    Apu.advance { a with lfsr := x } rate n = { a.advance rate n with lfsr := x } := by
  cases hon : (a.chan n).on with
  | false => rw [Apu.advance_of_off rate hon, Apu.advance_of_off rate ((a.chan_withLfsr x n).symm ▸ hon)]
  | true =>
    have hn : n ≠ .four := fun e => by simp [h e] at hon
    rw [Apu.advance_of_on rate hon, Apu.advance_of_on rate ((a.chan_withLfsr x n).symm ▸ hon), Apu.chan_withLfsr,
      if_neg hn]
    cases n <;> rfl

theorem sampledApu_chan_four_of_off (rate : Nat) {a : Apu} (h : (a.chan .four).on = false) :
    (sampledApu rate a).chan .four = a.chan .four := by
  have h3 : (((a.advance rate .one).advance rate .two).advance rate .three).chan .four = a.chan .four := by
    rw [Apu.advance_chan_ne (by decide), Apu.advance_chan_ne (by decide), Apu.advance_chan_ne (by decide)]
  rw [sampledApu, Apu.advance_of_off rate (h3.symm ▸ h), h3]

theorem sampledApu_withLfsr (rate : Nat) {a : Apu} (x : BitVec 15) (h : (a.chan .four).on = false) :
    sampledApu rate { a with lfsr := x } = { sampledApu rate a with lfsr := x } := by
  have hne : ∀ {n : Chan} {p : Prop}, n ≠ .four → n = .four → p := fun h e => absurd e h
  unfold sampledApu
  rw [Apu.advance_withLfsr rate x (hne (by decide)), Apu.advance_withLfsr rate x (hne (by decide)),
    Apu.advance_withLfsr rate x (hne (by decide)), Apu.advance_withLfsr rate x fun _ => ?_]
  rw [Apu.advance_chan_ne (by decide), Apu.advance_chan_ne (by decide), Apu.advance_chan_ne (by decide), h]

namespace SameButLfsr

variable {x : BitVec 15} {a b : Apu} (h : SameButLfsr x a b)
include h

theorem waveform_eq (n : Chan) : a.waveform n = b.waveform n := by
  obtain ⟨rfl, hk, hoff⟩ := h
  have hc := a.chan_withLfsr x n
  cases hon : (a.chan n).on with
  | false => rw [Apu.waveform_of_off hon, Apu.waveform_of_off (hc.symm ▸ hon)]
  | true =>
    cases hkind : (a.chan n).kind with
    | square => rw [Apu.waveform_of_square hon hkind, Apu.waveform_of_square (hc.symm ▸ hon) (hc.symm ▸ hkind), hc]
    | wave =>
      rw [Apu.waveform_of_wave hon hkind, Apu.waveform_of_wave (hc.symm ▸ hon) (hc.symm ▸ hkind), hc]
      rfl
    | noise =>
      rw [hk n hkind, hoff] at hon
      cases hon

theorem output_eq : a.output = b.output := by
  have hw := h.waveform_eq
  obtain ⟨rfl, -, -⟩ := h
  exact Apu.output_congr rfl rfl rfl hw

theorem sampledApu (rate : Nat) : SameButLfsr x (sampledApu rate a) (sampledApu rate b) := by
  obtain ⟨rfl, hk, hoff⟩ := h
  refine ⟨sampledApu_withLfsr rate x hoff, fun n hn => hk n ?_, ?_⟩
  · rwa [sampledApu_kind] at hn
  · rw [sampledApu_chan_four_of_off rate hoff, hoff]

end SameButLfsr

/-! ## Sampling (O58) -/

/-- An envelope step moves the amplitude one way and keeps it in step with what is left to go (62 R707). -/
theorem advanceEnvelope_in_step (c : Channel) (hup : c.envDir = true → c.amplitude.toNat + c.envTarget = 15)
    (hdown : c.envDir = false → c.amplitude.toNat = c.envTarget) :
    c.advanceEnvelope.envDir = c.envDir ∧
    (c.envDir = true → c.advanceEnvelope.amplitude.toNat + c.advanceEnvelope.envTarget = 15 ∧
      c.amplitude.toNat ≤ c.advanceEnvelope.amplitude.toNat) ∧
    (c.envDir = false → c.advanceEnvelope.amplitude.toNat = c.advanceEnvelope.envTarget ∧
      c.advanceEnvelope.amplitude.toNat ≤ c.amplitude.toNat) := by
  unfold Channel.advanceEnvelope
  split
  · next hgo =>
    split
    · cases hd : c.envDir with
      | true =>
        have h15 := hup hd
        have hamp : (c.amplitude + 1).toNat = c.amplitude.toNat + 1 := by
          rw [BitVec.toNat_add]
          exact Nat.mod_eq_of_lt (show c.amplitude.toNat + 1 < 16 by omega)
        refine ⟨rfl, fun _ => ?_, nofun⟩
        show (c.amplitude + 1).toNat + (c.envTarget - 1) = 15 ∧ _ ≤ (c.amplitude + 1).toNat
        omega
      | false =>
        have h0 := hdown hd
        have hamp : (c.amplitude - 1).toNat = c.amplitude.toNat - 1 :=
          BitVec.toNat_sub_of_le (BitVec.le_def.mpr (show 1 ≤ c.amplitude.toNat by omega))
        refine ⟨rfl, nofun, fun _ => ?_⟩
        show (c.amplitude - 1).toNat = c.envTarget - 1 ∧ (c.amplitude - 1).toNat ≤ _
        omega
    · exact ⟨rfl, fun h => ⟨hup h, Nat.le_refl _⟩, fun h => ⟨hdown h, Nat.le_refl _⟩⟩
  · exact ⟨rfl, fun h => ⟨hup h, Nat.le_refl _⟩, fun h => ⟨hdown h, Nat.le_refl _⟩⟩

theorem waveform_of_switchedOn {a : Apu} {n : Chan} {i : Nat} (hon : (a.chan n).on = true)
    (hk : (a.chan n).kind = .wave) (hs : (a.regs.get 0x1A).getLsbD 7 = true)
    (hi : ⌊(a.chan n).phase * 32⌋ = (i : Int)) : a.waveform n =
      (if i % 2 = 0 then (a.wave.get (i / 2)).toNat / 16 else (a.wave.get (i / 2)).toNat % 16) /
        2 ^ [4, 0, 1, 2].getD ((a.regs.get 0x1C).toNat / 32 % 4) 0 := by
  rw [Apu.waveform_of_wave hon hk, if_pos hs, hi]
  rfl

/-- While channel 4 is off the LFSR changes no sample, and no sample changes it. -/
theorem pull_withLfsr {s : State} (k : Nat) (x : BitVec 15) (h : SameButLfsr x s.apu { s.apu with lfsr := x }) :
    (pull k { s with apu.lfsr := x }).1 = (pull k s).1 ∧
      (pull k { s with apu.lfsr := x }).2 = { (pull k s).2 with apu.lfsr := x } := by
  obtain ⟨h1, h2⟩ := pull_congr (R := SameButLfsr x) (fun _ _ h => h.output_eq) (fun _ _ h => by rw [h.eq])
    (fun _ _ h => h.sampledApu _) k h
  refine ⟨h1, ?_⟩
  rw [pull_eq k s, pull_eq k { s with apu.lfsr := x }, h2.eq]

/-- Settles O58: the parts of a sample are the rules' words, an off channel does not move, and a pull iterates the
sample. -/
theorem apuSampling : Obligations.ApuSampling := by
  refine ⟨advanceEnvelope_in_step, ?_, ?_, fun a n m c => ⟨a.chan_setChan_same n c, a.chan_setChan_ne c⟩,
    fun a h => Apu.output_of_on h, ?_, fun s k h => pull_of_disabled k h, ?_, ?_,
    fun a rate n h => ⟨Apu.waveform_of_off h, Apu.advance_of_off rate h⟩, fun a n _ => a.waveform_le n,
    fun a h => Apu.output_of_off h, fun s h => sample_of_disabled h⟩
  · rintro a n _ rfl hon
    refine ⟨fun hk => ?_, fun hk => Apu.waveform_of_noise hon hk, fun hk hs => ?_,
      fun hk hs i hi => waveform_of_switchedOn hon hk hs hi⟩
    · rw [Apu.waveform_of_square hon hk, dutyOf_eq_getD]
    · rw [Apu.waveform_of_wave hon hk, if_neg (Bool.eq_false_iff.mp hs)]
  · intro a rate n hon
    refine ⟨Apu.advance_of_on rate hon, ?_⟩
    rw [Apu.advance_chan_same hon, sampledSpec_phase]
    exact ⟨Int.fract_nonneg _, Int.fract_lt_one _⟩
  · rintro s _ rfl hon
    exact ⟨sample_of_enabled hon, fun k => pull_of_enabled k hon⟩
  · intro s k x h1 h2 h3 h4
    refine pull_withLfsr k x ⟨rfl, fun n hn => ?_, h4⟩
    cases n with
    | one => exact absurd (h1.symm.trans hn) (by decide)
    | two => exact absurd (h2.symm.trans hn) (by decide)
    | three => exact absurd (h3.symm.trans hn) (by decide)
    | four => rfl
  · intro a rate n hon hlast
    rw [Apu.advance_chan_same hon]
    exact sampledSpec_off_of_last rate _ hlast

end Sys2Proof.Machine
end

section
/-! PROOF. The APU's registers (62 R702 to R711): a write, the trigger field by field, what the sampler reads of the
registers, and one clock of the LFSR. -/

open Sys2Proof.Claims

namespace Sys2Proof.Machine

/-! ## A write (62 R702) -/

theorem busWrite_apu {p : Byte} (v : Byte) (s : State) (h : 0x10 ≤ p ∧ p ≤ 0x26) :
    busWrite (mkWord 0xFF p) v s = .ok () { s with apu := s.apu.write p v } := by
  have hother : ∀ p : Byte, 0x10 ≤ p ∧ p ≤ 0x26 → p < 0x80 ∧ p ≠ 0x00 ∧ p ≠ 0x04 ∧ p ≠ 0x05 ∧ p ≠ 0x06 ∧ p ≠ 0x07 ∧
      p ≠ 0x0F := by decide
  obtain ⟨h80, h0, h4, h5, h6, h7, hF⟩ := hother p h
  have hp : p.toNat < 0x80 := BitVec.lt_def.mp h80
  have hw : (mkWord 0xFF p).toNat = 0xFF00 + p.toNat := mkWord_toNat 0xFF p
  rw [busWrite_io (by omega), loByte_mkWord, writeIo, if_neg h0, if_neg h4, if_neg h5, if_neg h6, if_neg h7, if_neg hF,
    if_pos h]

theorem Apu.write_of_no_trigger {p v : Byte} (a : Apu)
    (h : (p ≠ 0x14 ∧ p ≠ 0x19 ∧ p ≠ 0x1E ∧ p ≠ 0x23) ∨ v.getLsbD 7 = false) :
    a.write p v = { a with regs := a.regs.set p.toNat v } := by
  unfold Apu.write Apu.writeAt
  dsimp only
  obtain ⟨h1, h2, h3, h4⟩ | h := h
  · rw [triggerChan, if_neg h1, if_neg h2, if_neg h3, if_neg h4]
  · cases triggerChan p with
    | none => rfl
    | some n => exact if_neg (Bool.eq_false_iff.mp h)

/-- The index of NRnk in the register array (62 R701). -/
def nrIndex (n : Chan) (k : Nat) : Nat := 0x10 + 5 * (n.num - 1) + k

theorem Apu.write_of_trigger (a : Apu) (n : Chan) {v : Byte} (h : v.getLsbD 7 = true) :
    a.write (BitVec.ofNat 8 (nrIndex n 4)) v =
      Apu.trigger { a with regs := a.regs.set (nrIndex n 4) v } Config.sampleRate n := by
  cases n <;> exact if_pos h

/-! ## What the sampler reads of the registers (62 R702, R705) -/

/-- The other APU has other registers, which agree where every sample reads them: NR30, NR32, NR50 to NR52. -/
structure SameHeardRegs (a b : Apu) : Prop where
  eq : b = { a with regs := b.regs }
  heard : ∀ i ∈ [0x1A, 0x1C, 0x24, 0x25, 0x26], b.regs.get i = a.regs.get i

theorem Apu.chan_withRegs (a : Apu) (r : Memory) (n : Chan) : Apu.chan { a with regs := r } n = a.chan n := by
  cases n <;> rfl

theorem Apu.advance_withRegs (a : Apu) (rate : Nat) (n : Chan) (r : Memory) :
    Apu.advance { a with regs := r } rate n = { a.advance rate n with regs := r } := by
  have hc := a.chan_withRegs r n
  cases hon : (a.chan n).on with
  | false => rw [Apu.advance_of_off rate hon, Apu.advance_of_off rate (hc.symm ▸ hon)]
  | true =>
    rw [Apu.advance_of_on rate hon, Apu.advance_of_on rate (hc.symm ▸ hon), hc]
    cases n <;> rfl

namespace SameHeardRegs

variable {a b : Apu} (h : SameHeardRegs a b)
include h

theorem waveform_eq (n : Chan) : a.waveform n = b.waveform n := by
  have h30 := h.heard 0x1A (by decide)
  have h32 := h.heard 0x1C (by decide)
  have hc : b.chan n = a.chan n := by rw [h.eq, Apu.chan_withRegs]
  have hlfsr : b.lfsr = a.lfsr := by rw [h.eq]
  have hwave : b.waveSample = a.waveSample := by rw [h.eq]; rfl
  cases hon : (a.chan n).on with
  | false => rw [Apu.waveform_of_off hon, Apu.waveform_of_off (hc.symm ▸ hon)]
  | true =>
    cases hk : (a.chan n).kind with
    | square => rw [Apu.waveform_of_square hon hk, Apu.waveform_of_square (hc.symm ▸ hon) (hc.symm ▸ hk), hc]
    | noise => rw [Apu.waveform_of_noise hon hk, Apu.waveform_of_noise (hc.symm ▸ hon) (hc.symm ▸ hk), hc, hlfsr]
    | wave =>
      rw [Apu.waveform_of_wave hon hk, Apu.waveform_of_wave (hc.symm ▸ hon) (hc.symm ▸ hk), hc, h30, h32, hwave]

theorem output_eq : a.output = b.output :=
  Apu.output_congr (h.heard 0x24 (by decide)).symm (h.heard 0x25 (by decide)).symm (h.heard 0x26 (by decide)).symm
    h.waveform_eq

theorem sampledApu (rate : Nat) : SameHeardRegs (sampledApu rate a) (sampledApu rate b) := by
  have hb : Claims.sampledApu rate b = { Claims.sampledApu rate a with regs := b.regs } := by
    rw [h.eq]
    simp only [Claims.sampledApu, Apu.advance_withRegs]
  refine ⟨?_, fun i hi => ?_⟩
  · rw [hb]
  · rw [sampledApu_regs, sampledApu_regs, h.heard i hi]

end SameHeardRegs

theorem pull_of_unheard_write {s : State} {p : Nat} (v : Byte) (hw : s.apu.regs.wf = true) (h30 : p ≠ 0x1A)
    (h32 : p ≠ 0x1C) (h50 : p < 0x24) (k : Nat) :
    (pull k { s with apu.regs := s.apu.regs.set p v }).1 = (pull k s).1 := by
  refine (pull_congr (R := SameHeardRegs) (fun _ _ h => h.output_eq) (fun _ _ h => by rw [h.eq])
    (fun _ _ h => h.sampledApu _) k ⟨rfl, fun i hi => ?_⟩).1
  have hne : i ≠ p := by
    simp only [List.mem_cons, List.not_mem_nil, or_false] at hi
    omega
  exact (Memory.get_set _ p i v hw).trans (if_neg hne)

/-! ## The trigger (62 R703 to R708) -/

section

variable (a : Apu) (rate : Nat) (n : Chan)

theorem Apu.trigger_regs : (a.trigger rate n).regs = a.regs := by cases n <;> rfl
theorem Apu.trigger_wave : (a.trigger rate n).wave = a.wave := by cases n <;> rfl
theorem Apu.trigger_soundEnabled : (a.trigger rate n).soundEnabled = a.soundEnabled := by cases n <;> rfl
theorem Apu.trigger_lfsr : (a.trigger rate n).lfsr = if n = .four then 0x7FFF else a.lfsr := by cases n <;> rfl
theorem Apu.trigger_narrow : (a.trigger rate n).narrow = if n = .four then (a.nr n 3).getLsbD 3 else a.narrow := by
  cases n <;> rfl
theorem Apu.trigger_chan_same : (a.trigger rate n).chan n = a.triggered rate n := by cases n <;> rfl

theorem Apu.trigger_chan_ne {m : Chan} (h : m ≠ n) : (a.trigger rate n).chan m = a.chan m := by
  have hc : (a.trigger rate n).chan m = (a.setChan n (a.triggered rate n)).chan m := by cases n <;> cases m <;> rfl
  exact hc.trans (a.chan_setChan_ne _ h)

end

section

variable (a : Apu) (rate : Nat) {n : Chan}

theorem Apu.regPair_toNat (n : Chan) : (a.regPair n).toNat = (a.nr n 4).toNat % 8 * 256 + (a.nr n 3).toNat := by
  rw [Apu.regPair, BitVec.toNat_append, ← Nat.shiftLeft_add_eq_or_of_lt (a.nr n 3).isLt, Nat.shiftLeft_eq,
    BitVec.extractLsb'_toNat]
  rfl

theorem Apu.triggered_on (n : Chan) : (a.triggered rate n).on = true := by cases n <;> rfl

theorem Apu.triggered_phase (n : Chan) : (a.triggered rate n).phase = 0 := by cases n <;> rfl

theorem Apu.triggered_freqHz (n : Chan) : (a.triggered rate n).freqHz = a.frequency n := by cases n <;> rfl

/-- 62 R706: the length, from the whole of NR31 or the low six bits of NRn1. -/
theorem Apu.triggered_duration (n : Chan) : (a.triggered rate n).duration = if (a.nr n 4).getLsbD 6 then
    some ((if n = .three then 256 - (a.nr n 1).toNat else 64 - (a.nr n 1).toNat % 64) * rate / 256) else none := by
  have h6 : ∀ r : Byte, (r.extractLsb' 0 6).toNat = r.toNat % 64 := fun r => by
    rw [BitVec.extractLsb'_toNat]
    rfl
  rw [← h6]
  cases n <;> rfl

theorem toNat_bits_4_to_6 (r : Byte) : (r.extractLsb' 4 3).toNat = r.toNat / 16 % 8 := by
  rw [BitVec.extractLsb'_toNat, Nat.shiftRight_eq_div_pow]

theorem toNat_bits_0_to_2 (r : Byte) : (r.extractLsb' 0 3).toNat = r.toNat % 8 := by
  rw [BitVec.extractLsb'_toNat]
  rfl

theorem toNat_bits_4_to_7 (r : Byte) : (r.extractLsb' 4 4).toNat = r.toNat / 16 := by
  have := r.isLt
  rw [BitVec.extractLsb'_toNat, Nat.shiftRight_eq_div_pow]
  omega

/-- 62 R708: the sweep, from NRn0. -/
theorem Apu.triggered_sweep (h : n = .one ∨ n = .two) :
    (a.triggered rate n).sweepLen = (a.nr n 0).toNat / 16 % 8 * rate / 128 ∧
      (a.triggered rate n).sweepDir = (a.nr n 0).getLsbD 3 ∧
      (a.triggered rate n).sweepSteps = (a.nr n 0).toNat % 8 ∧ (a.triggered rate n).sweepCount = 0 := by
  rw [← toNat_bits_4_to_6, ← toNat_bits_0_to_2]
  obtain rfl | rfl := h <;> exact ⟨rfl, rfl, rfl, rfl⟩

/-- 62 R707: the envelope, from NRn2. -/
theorem Apu.triggered_envelope (h : n ≠ .three) :
    (a.triggered rate n).envSamplesPerStep = (a.nr n 2).toNat % 8 * rate / 64 ∧ (a.triggered rate n).envStep = 0 ∧
      (a.triggered rate n).amplitude.toNat = (a.nr n 2).toNat / 16 ∧
      (a.triggered rate n).envDir = (a.nr n 2).getLsbD 3 ∧
      (a.triggered rate n).envTarget =
        if (a.nr n 2).getLsbD 3 then 15 - (a.nr n 2).toNat / 16 else (a.nr n 2).toNat / 16 := by
  rw [← toNat_bits_0_to_2, ← toNat_bits_4_to_7]
  cases n with
  | three => exact absurd rfl h
  | one => exact ⟨rfl, rfl, rfl, rfl, rfl⟩
  | two => exact ⟨rfl, rfl, rfl, rfl, rfl⟩
  | four => exact ⟨rfl, rfl, rfl, rfl, rfl⟩

/-- The frequency register is below 2048, so no rounding is lost in the difference (62 R704). -/
theorem cast_sub_toNat (r : BitVec 11) : ((2048 - r.toNat : Nat) : Rat) = 2048 - (r.toNat : Rat) := by
  have h : r.toNat ≤ 2048 := r.isLt.le
  rw [Nat.cast_sub h]
  rfl

theorem Apu.frequency_square (h : n = .one ∨ n = .two) :
    a.frequency n = 131072 / (2048 - ((a.regPair n).toNat : Rat)) := by
  rw [← cast_sub_toNat]
  obtain rfl | rfl := h <;> rfl

theorem Apu.frequency_wave : a.frequency .three = 65536 / (2048 - ((a.regPair .three).toNat : Rat)) := by
  rw [← cast_sub_toNat]
  rfl

theorem noiseHz_eq (r : Byte) : noiseHz r =
    524288 / (if r.toNat % 8 = 0 then (1 / 2 : Rat) else ((r.toNat % 8 : Nat) : Rat)) / (2 : Rat) ^ (r.toNat / 16 + 1) := by
  rw [noiseHz, toNat_bits_0_to_2, toNat_bits_4_to_7, Nat.cast_pow]
  rfl

end

/-! ## The LFSR (62 R711) -/

/-- The XOR of the low bits enters a shifted LFSR at the top. -/
theorem getLsbD_shifted (x : BitVec 15) (b : Bool) {i : Nat} (hi : i < 15) :
    ((x >>> 1) ||| (if b then 0x4000 else 0)).getLsbD i = if i = 14 then b else x.getLsbD (i + 1) := by
  have hbit : ∀ b : Bool, ∀ i < 15, (if b then (0x4000 : BitVec 15) else 0).getLsbD i = (b && decide (i = 14)) := by
    decide
  have hlast : x.getLsbD (14 + 1) = false := BitVec.getLsbD_of_ge x 15 (Nat.le_refl 15)
  rw [BitVec.getLsbD_or, BitVec.getLsbD_ushiftRight, Nat.add_comm 1 i, hbit b i hi]
  by_cases h : i = 14
  · subst h
    rw [hlast]
    simp
  · simp [h]

/-- In 7-bit mode the XOR replaces bit 6 too. -/
theorem getLsbD_narrowed (y : BitVec 15) (b : Bool) {i : Nat} (hi : i < 15) :
    ((y &&& 0x7FBF) ||| (if b then 0x0040 else 0)).getLsbD i = if i = 6 then b else y.getLsbD i := by
  have hmask : ∀ i < 15, (0x7FBF : BitVec 15).getLsbD i = decide (i ≠ 6) := by decide
  have hbit : ∀ b : Bool, ∀ i < 15, (if b then (0x0040 : BitVec 15) else 0).getLsbD i = (b && decide (i = 6)) := by
    decide
  rw [BitVec.getLsbD_or, BitVec.getLsbD_and, hmask i hi, hbit b i hi]
  by_cases h : i = 6 <;> simp [h]

theorem lfsrClock_getLsbD (narrow : Bool) (x : BitVec 15) {i : Nat} (hi : i < 15) :
    (lfsrClock narrow x).getLsbD i =
      if i = 14 ∨ (narrow = true ∧ i = 6) then xor (x.getLsbD 0) (x.getLsbD 1) else x.getLsbD (i + 1) := by
  unfold lfsrClock
  dsimp only
  cases narrow with
  | false =>
    rw [if_neg Bool.false_ne_true, getLsbD_shifted x _ hi]
    simp
  | true =>
    rw [if_pos rfl, getLsbD_narrowed _ _ hi, getLsbD_shifted x _ hi]
    by_cases h6 : i = 6 <;> simp [h6]

/-! ## Writes, triggers and the LFSR (O57) -/

/-- The register of NRnk after a write of NRn4. -/
theorem Apu.nr_of_set {a : Apu} (n : Chan) (v : Byte) (hw : a.regs.wf = true) :
    Apu.nr { a with regs := a.regs.set (nrIndex n 4) v } n 4 = v ∧
      ∀ k < 4, Apu.nr { a with regs := a.regs.set (nrIndex n 4) v } n k = a.regs.get (nrIndex n k) := by
  have hget : ∀ k, Apu.nr { a with regs := a.regs.set (nrIndex n 4) v } n k =
      if nrIndex n k = nrIndex n 4 then v else a.regs.get (nrIndex n k) := fun k =>
    Memory.get_set a.regs (nrIndex n 4) (nrIndex n k) v hw
  refine ⟨(hget 4).trans (if_pos rfl), fun k hk => (hget k).trans (if_neg ?_)⟩
  unfold nrIndex
  omega

/-- Settles O57: a write stores, and a trigger is `triggered` of the registers as they are after the store. -/
theorem apuWritesAndNoise : Obligations.ApuWritesAndNoise := by
  refine ⟨fun p v s hp ht => ⟨?_, fun hw h30 h32 h50 k => pull_of_unheard_write v hw h30 h32 h50 k⟩, ?_,
    fun narrow x i hi => lfsrClock_getLsbD narrow x hi⟩
  · obtain ⟨hlo, hhi⟩ := hp
    have hb : (BitVec.ofNat 8 p).toNat = p := Nat.mod_eq_of_lt (by omega)
    have hne : ∀ q < 256, p ≠ q → BitVec.ofNat 8 p ≠ BitVec.ofNat 8 q := fun q hq h e =>
      h (by rw [← hb, e]; exact Nat.mod_eq_of_lt hq)
    have ha : BitVec.ofNat 16 (0xFF00 + p) = mkWord 0xFF (BitVec.ofNat 8 p) := by
      apply BitVec.eq_of_toNat_eq
      rw [mkWord_toNat, hb, BitVec.toNat_ofNat, Nat.mod_eq_of_lt (by omega)]
      rfl
    rw [ha, busWrite_apu v s ⟨BitVec.le_def.mpr (hb.symm ▸ hlo), BitVec.le_def.mpr (hb.symm ▸ hhi)⟩,
      Apu.write_of_no_trigger, hb]
    exact ht.imp_left fun ⟨h1, h2, h3, h4⟩ => ⟨hne _ (by decide) h1, hne _ (by decide) h2, hne _ (by decide) h3,
      hne _ (by decide) h4⟩
  · rintro n v lo r0 r1 r2 s reg hw hv h0 h1 hlo h2 hreg
    obtain ⟨hv4, hget⟩ := Apu.nr_of_set (a := s.apu) n v hw
    have hwrite : busWrite (nrAddress n 4) v s =
        .ok () { s with apu := s.apu.write (BitVec.ofNat 8 (nrIndex n 4)) v } := by
      cases n with
      | one => exact busWrite_apu (p := 0x14) v s (by decide)
      | two => exact busWrite_apu (p := 0x19) v s (by decide)
      | three => exact busWrite_apu (p := 0x1E) v s (by decide)
      | four => exact busWrite_apu (p := 0x23) v s (by decide)
    have hchan := s.apu.chan_withRegs (s.apu.regs.set (nrIndex n 4) v)
    have hnarrow : Apu.narrow { s.apu with regs := s.apu.regs.set (nrIndex n 4) v } = s.apu.narrow := rfl
    rw [Apu.write_of_trigger s.apu n hv] at hwrite
    refine ⟨_, hwrite, rfl, Apu.trigger_regs _ _ n, Apu.trigger_wave _ _ n, Apu.trigger_soundEnabled _ _ n,
      fun m hm => (Apu.trigger_chan_ne _ _ n hm).trans (hchan m), Apu.trigger_lfsr _ _ n, ?_⟩
    dsimp only
    rw [Apu.trigger_narrow, Apu.trigger_chan_same]
    generalize ({ s.apu with regs := s.apu.regs.set (nrIndex n 4) v } : Apu) = a at hv4 hget hchan hnarrow ⊢
    replace h0 : a.nr n 0 = r0 := (hget 0 (by decide)).trans h0.symm
    replace h1 : a.nr n 1 = r1 := (hget 1 (by decide)).trans h1.symm
    replace h2 : a.nr n 2 = r2 := (hget 2 (by decide)).trans h2.symm
    replace hlo : a.nr n 3 = lo := (hget 3 (by decide)).trans hlo.symm
    replace hreg : reg = (a.regPair n).toNat := by rw [Apu.regPair_toNat, hv4, hlo, hreg]
    subst h0 h1 h2 hlo hv4 hreg
    refine ⟨by rw [hnarrow], a.triggered_on _ n, a.triggered_phase _ n,
      (a.triggered_kind _ n).trans (congrArg _ (hchan n)), a.triggered_duration _ n, a.triggered_sweep _, ?_, fun hn => ?_, fun hn => ?_, ?_, ?_, fun hn => ?_⟩
    · rintro rfl
      exact ⟨rfl, rfl⟩
    · obtain ⟨hper, hstep, -⟩ := a.triggered_envelope Config.sampleRate hn
      exact ⟨hper, hstep⟩
    · refine ⟨(a.triggered_freqHz _ n).trans (a.frequency_square hn), ?_⟩
      obtain rfl | rfl := hn <;> exact ⟨rfl, rfl⟩
    · rintro rfl
      exact ⟨(a.triggered_freqHz _ .three).trans a.frequency_wave, rfl⟩
    · rintro rfl
      exact (a.triggered_freqHz _ .four).trans (noiseHz_eq _)
    · obtain ⟨-, -, hamp⟩ := a.triggered_envelope Config.sampleRate hn
      exact hamp

end Sys2Proof.Machine
end

section
/-! PROOF. The invariant at its start and between two steps (70 R800, R801, 60 R540 to R560): what construct gives, and
what the host's operations, `update()` and a restore keep. -/

open Sys2Proof.Claims

namespace Sys2Proof.Machine

/-! ## Arrays made and filled from byte lists (10 R38) -/

theorem arrayWf_ofBytesFrom {n i : Nat} {bs : List Byte} (h : i + bs.length ≤ n) :
    arrayWf n (Memory.ofBytesFrom i bs) = true :=
  Bool.and_eq_true_iff.mpr ⟨Memory.wfFrom_ofBytesFrom bs (Nat.zero_le i), Memory.below_ofBytesFrom bs h⟩

theorem arrayWf_ofBytes {n : Nat} {bs : List Byte} (h : bs.length ≤ n) : arrayWf n (Memory.ofBytes bs) = true :=
  arrayWf_ofBytesFrom ((Nat.zero_add _).symm ▸ h)

theorem arrayWf_ofBytes_take (n : Nat) (bs : List Byte) : arrayWf n (Memory.ofBytes (bs.take n)) = true :=
  arrayWf_ofBytes (List.length_take_le n bs)

theorem arrayWf_setBytes {n i : Nat} {m : Memory} (bs : List Byte) (h : arrayWf n m = true) :
    arrayWf n (m.setBytes n i bs) = true := by
  rw [arrayWf, Bool.and_eq_true] at h ⊢
  obtain ⟨hwf, hbelow⟩ := h
  exact ⟨Memory.wf_setBytes bs m i hwf, Memory.below_setBytes bs m i hbelow⟩

section

variable {p : Host.Cell → Bool} {bs : List Byte} (hp : ∀ b ∈ bs, ∀ k, p (k, b) = true)
include hp

theorem Memory.all_ofBytesFrom (i : Nat) : (Memory.ofBytesFrom i bs).all p = true := by
  induction bs generalizing i with
  | nil => rfl
  | cons v t ih =>
    obtain ⟨hv, ht⟩ := List.forall_mem_cons.mp hp
    exact Memory.all_consCell (hv i) (ih ht (i + 1))

theorem Memory.all_setBytes {size i : Nat} {m : Memory} (h : m.all p = true) :
    (m.setBytes size i bs).all p = true := by
  induction bs generalizing m i with
  | nil => exact h
  | cons v t ih =>
    obtain ⟨hv, ht⟩ := List.forall_mem_cons.mp hp
    unfold Memory.setBytes
    split
    · exact ih ht (Memory.all_set m (hv i) h)
    · exact h

end

/-- A list cut to nibbles holds nibbles (10 R63). -/
theorem nibble_of_mem_map {bs : List Byte} :
    ∀ b ∈ bs.map (· &&& 0x0F), ∀ k : Nat, decide (((k, b) : Host.Cell).2.toNat < 16) = true := by
  intro b hb k
  obtain ⟨x, -, rfl⟩ := List.mem_map.mp hb
  exact decide_eq_true (Nat.lt_succ_of_le (toNat_and_le x 0x0F))

/-! ## construct (70 R800, R801) -/

section

variable {romLength : Nat} {rom : Memory} (q snd : Bool) (boot : BootState) (ram : InitialRam)

theorem initialState_cart (h : arrayWf romLength rom = true) :
    CartWf (initialState romLength rom q snd boot ram).cart where
  rom := h
  ram := arrayWf_ofBytes_take 0x20000 ram.cartRam
  mbc2Ram := arrayWf_ofBytes ((List.length_map _).trans_le (List.length_take_le 512 ram.mbc2Ram))
  nibbles := Memory.all_ofBytesFrom nibble_of_mem_map 0
  rtcLive := rfl
  rtcLatched := rfl
  banks := by
    unfold banksWf initialState
    dsimp only
    cases mbcOfHeader (rom.get 0x147) <;> decide

theorem initialState_apu : ApuWf (initialState romLength rom q snd boot ram).apu where
  wave := arrayWf_ofBytes_take 16 ram.wave
  regs := arrayWf_ofBytesFrom (Nat.add_le_add_left (List.length_take_le 23 boot.apu) 0x10)
  kinds := ⟨rfl, rfl, rfl, rfl⟩

theorem initialState_ppu : PpuWf (initialState romLength rom q snd boot ram).ppu where
  vram := arrayWf_ofBytes_take 0x4000 ram.vram
  oam := arrayWf_ofBytes_take 160 ram.oam
  bgPal := arrayWf_ofBytes_take 64 ram.bgPal
  objPal := arrayWf_ofBytes_take 64 ram.objPal
  ly := Nat.zero_le 153
  dot := (by decide : 0 < 912)
  screen := rfl
  prepared := rfl
  bgIndex := List.length_replicate
  bgAttrPrio := List.length_replicate

theorem cgbModeOf_dmgOnly : cgbModeOf q .dmgOnly = false := Bool.and_false q

theorem initialState_inv (h : arrayWf romLength rom = true) : Inv (initialState romLength rom q snd boot ram) :=
  inv_iff.mpr ⟨{
    ppu := initialState_ppu q snd boot ram
    vblank := fun h => absurd h (by decide : ¬144 ≤ 0)
    timer := ⟨(by decide : 0 < 255), (by decide : 0 < 1024)⟩
    hdma := ⟨(by decide : 0x8000 ≤ (0x8000 : Word).toNat ∧ (0x8000 : Word).toNat < 0xA000), Nat.zero_le 128,
      fun h => absurd h Bool.false_ne_true⟩
    cart := initialState_cart q snd boot ram h
    apu := initialState_apu q snd boot ram
    wram := arrayWf_ofBytes_take 0x8000 ram.wram
    hram := arrayWf_ofBytes_take 127 ram.hram
    dmgOnly := fun hs => (congrArg (cgbModeOf q) hs).trans (cgbModeOf_dmgOnly q)
    dmg := fun _ => ⟨rfl, rfl, rfl, rfl, rfl⟩ }, fun _ => rfl⟩

end

/-- Settles O10: the state at reset is an initial state, with an empty ROM array. -/
theorem invHoldsAtReset : Obligations.InvHoldsAtReset :=
  initialState_inv false true (dmgBoot 0x00) InitialRam.empty rfl

theorem construct_of_short {rom : List Byte} (q snd : Bool) (boot : BootState) (ram : InitialRam)
    (h : rom.length < 0x150) : construct rom q snd boot ram = .error .headerTooShort := if_pos h

theorem construct_of_long {rom : List Byte} (q snd : Bool) (boot : BootState) (ram : InitialRam)
    (h : 0x150 ≤ rom.length) :
    construct rom q snd boot ram = .ok (initialState rom.length (Memory.ofBytes rom) q snd boot ram) :=
  if_neg (Nat.not_lt.mpr h)

theorem construct_inv {rom : List Byte} {q snd : Bool} {boot : BootState} {ram : InitialRam} {s : State}
    (h : construct rom q snd boot ram = .ok s) : Inv s := by
  obtain hshort | hlong := Nat.lt_or_ge rom.length 0x150
  · rw [construct_of_short q snd boot ram hshort] at h
    cases h
  · rw [construct_of_long q snd boot ram hlong, Except.ok.injEq] at h
    exact h ▸ initialState_inv q snd boot ram (arrayWf_ofBytes (Nat.le_refl _))

/-! ## The host's operations (60 R540 to R560, 62 R720) -/

/-- 60 R544: loading save data fills a RAM up to its size, MBC2's with nibbles. -/
theorem loadSaveData_cart {s : State} (bs : List Byte) (h : CartWf s.cart) : CartWf (loadSaveData bs s).cart := by
  unfold loadSaveData
  cases hm : s.cart.mbc with
  | romOnly => exact h
  | mbc2 =>
    exact { h with
      mbc2Ram := arrayWf_setBytes _ h.mbc2Ram
      nibbles := Memory.all_setBytes nibble_of_mem_map h.nibbles }
  | mbc1 | mbc3 | mbc5 => exact { h with ram := arrayWf_setBytes bs h.ram }

theorem ApuWf.sampled {a : Apu} (rate : Nat) (h : ApuWf a) : ApuWf (sampledApu rate a) := by
  obtain ⟨hwave, hregs, h1, h2, h3, h4⟩ := h
  have hk := sampledApu_kind rate a
  refine ⟨by rwa [sampledApu_wave], by rwa [sampledApu_regs], (hk .one).trans h1, (hk .two).trans h2,
    (hk .three).trans h3, (hk .four).trans h4⟩

theorem pull_apu (k : Nat) {s : State} (h : ApuWf s.apu) : ApuWf (pull k s).2.apu := by
  cases hs : s.apu.soundEnabled with
  | false => rwa [pull_of_disabled k hs]
  | true =>
    rw [pull_of_enabled k hs]
    exact Function.Iterate.rec ApuWf h (fun _ => ApuWf.sampled Config.sampleRate) k

theorem HostOp.apply_cart (o : HostOp) {s : State} (h : CartWf s.cart) : CartWf (o.apply s).cart := by
  cases o with
  | press btn => exact h
  | release btn => exact h
  | loadSave bs => exact loadSaveData_cart bs h
  | pull k => rwa [HostOp.apply, pull_eq]

theorem HostOp.apply_apu (o : HostOp) {s : State} (h : ApuWf s.apu) : ApuWf (o.apply s).apu := by
  cases o with
  | press btn => exact h
  | release btn => exact h
  | loadSave bs => rwa [HostOp.apply, loadSaveData_eq]
  | pull k => exact pull_apu k h

theorem HostOp.apply_inv (o : HostOp) {s : State} (h : Inv s) : Inv (o.apply s) := by
  obtain ⟨hbody, hflag⟩ := inv_iff.mp h
  have hcart := o.apply_cart hbody.cart
  have hapu := o.apply_apu hbody.apu
  rw [o.apply_eq]
  exact inv_iff.mpr ⟨{ hbody with cart := hcart, apu := hapu }, hflag⟩

/-- The invariant says nothing of the carry and the draw counter. -/
theorem Inv.withCarryAndDraws {s : State} (carry draws : Nat) (h : Inv s) :
    Inv { s with frameCarry := carry, draws := draws } :=
  ⟨{ h.arrays with }, { h.counters with }, { h.units with }⟩

theorem update_inv {s : State} (h : Inv s) : Inv (update s).2 := by
  rw [update_snd_eq]
  exact (updateLoop_invariant invKeptByEveryStep _ 0 h).withCarryAndDraws _ _

/-- Settles O12: the parts of the invariant at construction, and what a host operation leaves of each; the loop
of `update()` only steps. -/
theorem invFromConstructAndHost : Obligations.InvFromConstructAndHost :=
  ⟨fun _ _ _ _ _ _ h => construct_inv h, fun o _ h => o.apply_inv h, fun _ h => update_inv h,
    fun _ _ h => ⟨h.withCarryAndDraws _ _, h⟩⟩

end Sys2Proof.Machine
end

section
/-! PROOF. What construct gives, item by item (70 R800 to R802, 20 R151, R152, 10 R28 to R70). -/

open Sys2Proof.Claims

namespace Sys2Proof.Machine

/-! ## The header (20 R151, R152, 70 R802) -/

theorem mbcOfHeader_eq : ∀ t : Byte, mbcOfHeader t =
    if t = 0x00 ∨ t = 0x08 ∨ t = 0x09 ∨ (0x0B ≤ t ∧ t ≤ 0x0D) then .romOnly
    else if 0x01 ≤ t ∧ t ≤ 0x03 then .mbc1
    else if 0x04 ≤ t ∧ t ≤ 0x06 then .mbc2
    else if t = 0x07 ∨ t = 0x0A ∨ (0x0E ≤ t ∧ t ≤ 0x13) then .mbc3
    else if 0x14 ≤ t ∧ t ≤ 0x16 then .mbc1
    else if 0x17 ≤ t ∧ t ≤ 0x1E then .mbc5
    else .mbc1 := by
  decide

theorem batteryOfHeader_iff (t : Byte) : batteryOfHeader t = true ↔
    t = 0x03 ∨ t = 0x06 ∨ t = 0x09 ∨ t = 0x0D ∨ t = 0x0F ∨ t = 0x10 ∨ t = 0x13 ∨ t = 0x17 ∨ t = 0x1B ∨ t = 0x1E ∨
    t = 0xFF := by
  simp only [batteryOfHeader, decide_eq_true_eq, List.mem_cons, List.not_mem_nil, or_false]

theorem cgbModeOf_iff (q : Bool) (m : SupportMode) : cgbModeOf q m = true ↔ q = true ∧ m ≠ .dmgOnly := by
  rw [cgbModeOf, Bool.and_eq_true, decide_eq_true_eq]

/-! ## The arrays construct fills (10 R38, R62) -/

section

variable {n k : Nat} (hk : k < n) (bs : List Byte)
include hk

theorem getD_take : (bs.take n).getD k 0 = bs.getD k 0 := by
  rw [List.getD_eq_getElem?_getD, List.getD_eq_getElem?_getD, List.getElem?_take_of_lt hk]

theorem Memory.get_ofBytes_take : (Memory.ofBytes (bs.take n)).get k = bs.getD k 0 :=
  (Memory.get_ofBytes _ k).trans (getD_take hk bs)

theorem Memory.get_ofBytes_nibbles :
    (Memory.ofBytes ((bs.take n).map (· &&& 0x0F))).get k = bs.getD k 0 &&& 0x0F :=
  calc (Memory.ofBytes ((bs.take n).map (· &&& 0x0F))).get k
    _ = ((bs.take n).map (· &&& 0x0F)).getD k (0 &&& 0x0F) := Memory.get_ofBytes _ k
    _ = (bs.take n).getD k 0 &&& 0x0F := List.getD_map _ 0 (· &&& 0x0F)
    _ = bs.getD k 0 &&& 0x0F := by rw [getD_take hk bs]

end

/-- Settles O32: the header's tables, and the fields of `initialState`, whose ROM, registers and arrays read as the
lists they are made of. -/
theorem constructAndReset : Obligations.ConstructAndReset := by
  refine ⟨mbcOfHeader_eq, batteryOfHeader_iff, fun _ => rfl, cgbModeOf_iff,
    fun rom q snd boot ram => ⟨construct_of_short q snd boot ram, fun hlong =>
      ⟨_, construct_of_long q snd boot ram hlong, ?_⟩⟩, fun _ => ⟨rfl, rfl⟩, rfl, by decide⟩
  have hrom : ∀ k, (Memory.ofBytes rom).get k = rom.getD k 0x00 := Memory.get_ofBytes rom
  unfold initialState
  dsimp only
  rw [hrom, hrom]
  have hregs : ∀ k < 23, Memory.get (Memory.ofBytesFrom 0x10 (boot.apu.take 23)) (0x10 + k) = boot.apu.getD k 0x00 :=
    fun k hk => (Memory.get_ofBytesFrom _ 0x10 k).trans (getD_take hk boot.apu)
  have hlfsr : boot.lfsr.value = if boot.lfsr = .zero then 0 else 0x7FFF := by cases boot.lfsr <;> rfl
  simp only [hlfsr, true_and]
  exact ⟨hrom, fun _ => ⟨rfl, rfl⟩, hregs, fun n => by cases n <;> rfl, fun _ hk => Memory.get_ofBytes_take hk _,
    fun _ hk => Memory.get_ofBytes_nibbles hk _, fun _ hk => Memory.get_ofBytes_take hk _,
    fun _ hk => Memory.get_ofBytes_take hk _, fun _ hk => Memory.get_ofBytes_take hk _,
    fun _ hk => Memory.get_ofBytes_take hk _, fun _ hk => Memory.get_ofBytes_take hk _,
    fun _ hk => Memory.get_ofBytes_take hk _, fun _ hk => Memory.get_ofBytes_take hk _⟩

end Sys2Proof.Machine
end
